-- ==== Sys2Proof/Word.lean ====
section
/-! DEFINITION. Word sizes of the hardware (spec/00_scope.md R5, R7; spec/30_encoding.md R91): nibble fields, bytes,
16-bit words and 12-bit address immediates, all unsigned. Bit 0 is the least significant bit. -/

namespace Sys2Proof

/-- A 4-bit field: a register index X or Y, or a row count N (R91). -/
abbrev Nibble := BitVec 4

/-- An 8-bit register, memory byte, or immediate NN (R5, R91). -/
abbrev Byte := BitVec 8

/-- A 12-bit address immediate NNN (R91). -/
abbrev Imm12 := BitVec 12

/-- A 16-bit word: an instruction, PC, I, or a stack slot (R5, R90). -/
abbrev Word := BitVec 16

end Sys2Proof
end

