-- ==== Sys2Proof/Syntax.lean ====
section
/-! DEFINITION. The instruction set: one constructor per row of spec/opcode_table.json (spec/30_encoding.md R96), with
the operand fields of R91 and R92. -/

namespace Sys2Proof

/-- The 34 instructions in the table's order. The docstring of a constructor gives its pattern and its rule. -/
inductive Instr where
  /-- 00E0, R211 -/
  | cls
  /-- 00EE, R141 -/
  | ret
  /-- 1NNN, R142 -/
  | jp (nnn : Imm12)
  /-- 2NNN, R143 -/
  | call (nnn : Imm12)
  /-- 3XNN, R144 -/
  | seVN (x : Nibble) (nn : Byte)
  /-- 4XNN, R145 -/
  | sneVN (x : Nibble) (nn : Byte)
  /-- 5XY0, R146 -/
  | seVV (x y : Nibble)
  /-- 6XNN, R161 -/
  | ldVN (x : Nibble) (nn : Byte)
  /-- 7XNN, R162 -/
  | addVN (x : Nibble) (nn : Byte)
  /-- 8XY0, R163 -/
  | ldVV (x y : Nibble)
  /-- 8XY1, R164 -/
  | orVV (x y : Nibble)
  /-- 8XY2, R165 -/
  | andVV (x y : Nibble)
  /-- 8XY3, R166 -/
  | xorVV (x y : Nibble)
  /-- 8XY4, R172 -/
  | addVV (x y : Nibble)
  /-- 8XY5, R173 -/
  | sub (x y : Nibble)
  /-- 8XY6, R174; Y is decoded and not used (R99) -/
  | shr (x y : Nibble)
  /-- 8XY7, R175 -/
  | subn (x y : Nibble)
  /-- 8XYE, R176; Y is decoded and not used (R99) -/
  | shl (x y : Nibble)
  /-- 9XY0, R147 -/
  | sneVV (x y : Nibble)
  /-- ANNN, R191 -/
  | ldI (nnn : Imm12)
  /-- BNNN, R148 -/
  | jpV0 (nnn : Imm12)
  /-- CXNN, R181 -/
  | rnd (x : Nibble) (nn : Byte)
  /-- DXYN, R214 -/
  | drw (x y n : Nibble)
  /-- EX9E, R233 -/
  | skp (x : Nibble)
  /-- EXA1, R234 -/
  | sknp (x : Nibble)
  /-- FX07, R251 -/
  | ldVDT (x : Nibble)
  /-- FX0A, R238 -/
  | ldVK (x : Nibble)
  /-- FX15, R252 -/
  | ldDTV (x : Nibble)
  /-- FX18, R253 -/
  | ldSTV (x : Nibble)
  /-- FX1E, R192 -/
  | addIV (x : Nibble)
  /-- FX29, R193 -/
  | ldFV (x : Nibble)
  /-- FX33, R194 -/
  | ldBV (x : Nibble)
  /-- FX55, R195 -/
  | stRegs (x : Nibble)
  /-- FX65, R196 -/
  | ldRegs (x : Nibble)
  deriving DecidableEq, Repr

end Sys2Proof
end

