-- ==== Sys2Proof/WellFormed.lean ====
section
/-! DEFINITION. Well-formed instructions (spec/30_encoding.md R91, R92): every operand fits the field that encodes it.
The operand types of `Instr` already bound every field, so every term of `Instr` is well formed (Laws/PerInstr.lean
proves it constructor by constructor); the check itself is over raw operand lists, and refuses a value too wide. -/

namespace Sys2Proof

/-- The operands of a raw instruction, as (width of the field in bits, value) pairs, fit their fields (R91). -/
def operandsFit (fields : List (Nat × Nat)) : Bool :=
  fields.all fun field => field.2 < 2 ^ field.1

/-- The operand fields of an instruction in the order of its pattern: X, Y and N are 4 bits, NN 8, NNN 12 (R91, R92). -/
def Instr.operands : Instr → List (Nat × Nat)
  | .cls | .ret => []
  | .jp nnn | .call nnn | .ldI nnn | .jpV0 nnn => [(12, nnn.toNat)]
  | .seVN x nn | .sneVN x nn | .ldVN x nn | .addVN x nn | .rnd x nn => [(4, x.toNat), (8, nn.toNat)]
  | .seVV x y | .ldVV x y | .orVV x y | .andVV x y | .xorVV x y | .addVV x y | .sub x y | .shr x y | .subn x y
  | .shl x y | .sneVV x y => [(4, x.toNat), (4, y.toNat)]
  | .drw x y n => [(4, x.toNat), (4, y.toNat), (4, n.toNat)]
  | .skp x | .sknp x | .ldVDT x | .ldVK x | .ldDTV x | .ldSTV x | .addIV x | .ldFV x | .ldBV x | .stRegs x
  | .ldRegs x => [(4, x.toNat)]

/-- An instruction is well formed when its operands fit their fields. -/
def Instr.wellFormed (i : Instr) : Bool :=
  operandsFit i.operands

end Sys2Proof
end

