-- ==== Sys2Proof/Decode.lean ====
section
/-! DEFINITION. The decoder and the encoder (spec/30_encoding.md R90 to R99). Every instruction is one 16-bit word, its
high byte at the lower address. `decode` follows the family procedure of R94; `opcodeTable` is the match and mask table
of R96, which the spec says gives the same result. -/

namespace Sys2Proof

/-! ### Fields (R91) -/

/-- OP, w[15:12]. -/
def fieldOP (w : Word) : Nibble := w.extractLsb' 12 4

/-- X, w[11:8]. -/
def fieldX (w : Word) : Nibble := w.extractLsb' 8 4

/-- Y, w[7:4]. -/
def fieldY (w : Word) : Nibble := w.extractLsb' 4 4

/-- N, w[3:0]. -/
def fieldN (w : Word) : Nibble := w.extractLsb' 0 4

/-- NN, w[7:0]. -/
def fieldNN (w : Word) : Byte := w.extractLsb' 0 8

/-- NNN, w[11:0]. -/
def fieldNNN (w : Word) : Imm12 := w.extractLsb' 0 12

/-! ### Decoding -/

/-- What decoding answers: an instruction, or a rejection by name. -/
inductive Decoded where
  /-- the word's instruction -/
  | instr (i : Instr)
  /-- no row of the opcode table matches this word (R98); the STEP returns `InvalidOpcode` (R271) -/
  | invalidOpcode (w : Word)
  /-- fewer than two bytes were given; a fetch always gives two (R90) -/
  | truncated
  deriving DecidableEq, Repr

/-- Family 0 compares the whole word with 0x00E0 and 0x00EE (R94, R95). -/
def decodeFamily0 (w : Word) : Decoded :=
  if w = 0x00E0#16 then .instr .cls
  else if w = 0x00EE#16 then .instr .ret
  else .invalidOpcode w

/-- Family 8 selects on N (R94, R95). -/
def decodeFamily8 (w : Word) : Decoded :=
  match fieldN w with
  | 0x0#4 => .instr (.ldVV (fieldX w) (fieldY w))
  | 0x1#4 => .instr (.orVV (fieldX w) (fieldY w))
  | 0x2#4 => .instr (.andVV (fieldX w) (fieldY w))
  | 0x3#4 => .instr (.xorVV (fieldX w) (fieldY w))
  | 0x4#4 => .instr (.addVV (fieldX w) (fieldY w))
  | 0x5#4 => .instr (.sub (fieldX w) (fieldY w))
  | 0x6#4 => .instr (.shr (fieldX w) (fieldY w))
  | 0x7#4 => .instr (.subn (fieldX w) (fieldY w))
  | 0xE#4 => .instr (.shl (fieldX w) (fieldY w))
  | _ => .invalidOpcode w

/-- Family E selects on NN (R94, R95). -/
def decodeFamilyE (w : Word) : Decoded :=
  match fieldNN w with
  | 0x9E#8 => .instr (.skp (fieldX w))
  | 0xA1#8 => .instr (.sknp (fieldX w))
  | _ => .invalidOpcode w

/-- Family F selects on NN (R94, R95). -/
def decodeFamilyF (w : Word) : Decoded :=
  match fieldNN w with
  | 0x07#8 => .instr (.ldVDT (fieldX w))
  | 0x0A#8 => .instr (.ldVK (fieldX w))
  | 0x15#8 => .instr (.ldDTV (fieldX w))
  | 0x18#8 => .instr (.ldSTV (fieldX w))
  | 0x1E#8 => .instr (.addIV (fieldX w))
  | 0x29#8 => .instr (.ldFV (fieldX w))
  | 0x33#8 => .instr (.ldBV (fieldX w))
  | 0x55#8 => .instr (.stRegs (fieldX w))
  | 0x65#8 => .instr (.ldRegs (fieldX w))
  | _ => .invalidOpcode w

/-- The decode procedure of R94: select a family by OP, then decode the family's own sub-fields; families 5 and 9
require N = 0 (D8). Total on all 65536 words, with no fall-through (R97). -/
def decode (w : Word) : Decoded :=
  match fieldOP w with
  | 0x0#4 => decodeFamily0 w
  | 0x1#4 => .instr (.jp (fieldNNN w))
  | 0x2#4 => .instr (.call (fieldNNN w))
  | 0x3#4 => .instr (.seVN (fieldX w) (fieldNN w))
  | 0x4#4 => .instr (.sneVN (fieldX w) (fieldNN w))
  | 0x5#4 => if fieldN w = 0x0#4 then .instr (.seVV (fieldX w) (fieldY w)) else .invalidOpcode w
  | 0x6#4 => .instr (.ldVN (fieldX w) (fieldNN w))
  | 0x7#4 => .instr (.addVN (fieldX w) (fieldNN w))
  | 0x8#4 => decodeFamily8 w
  | 0x9#4 => if fieldN w = 0x0#4 then .instr (.sneVV (fieldX w) (fieldY w)) else .invalidOpcode w
  | 0xA#4 => .instr (.ldI (fieldNNN w))
  | 0xB#4 => .instr (.jpV0 (fieldNNN w))
  | 0xC#4 => .instr (.rnd (fieldX w) (fieldNN w))
  | 0xD#4 => .instr (.drw (fieldX w) (fieldY w) (fieldN w))
  | 0xE#4 => decodeFamilyE w
  | 0xF#4 => decodeFamilyF w
  | _ => .invalidOpcode w

/-- The word two fetched bytes make, the byte at the lower address in bits 15..8 (R63, R124). -/
def wordOfBytes (high low : Byte) : Word := high ++ low

/-- Decoding a list of bytes, lowest address first; bytes after the second belong to later instructions (R90). -/
def decodeBytes : List Byte → Decoded
  | high :: low :: _ => decode (wordOfBytes high low)
  | _ => .truncated

/-! ### Encoding -/

/-- Format A: OP[15:12] NNN[11:0] (R92). -/
def formatA (op : Nibble) (nnn : Imm12) : Word := op ++ nnn

/-- Format XI: OP[15:12] X[11:8] NN[7:0]; format XS is the same layout with a fixed NN (R92). -/
def formatXI (op x : Nibble) (nn : Byte) : Word := op ++ x ++ nn

/-- Format XYN: OP[15:12] X[11:8] Y[7:4] N[3:0]; format XY is the same layout with a fixed N (R92). -/
def formatXYN (op x y n : Nibble) : Word := op ++ x ++ y ++ n

/-- The word of an instruction, from the match values of R96 and the formats of R92. -/
def encode : Instr → Word
  | .cls => 0x00E0#16
  | .ret => 0x00EE#16
  | .jp nnn => formatA 0x1#4 nnn
  | .call nnn => formatA 0x2#4 nnn
  | .seVN x nn => formatXI 0x3#4 x nn
  | .sneVN x nn => formatXI 0x4#4 x nn
  | .seVV x y => formatXYN 0x5#4 x y 0x0#4
  | .ldVN x nn => formatXI 0x6#4 x nn
  | .addVN x nn => formatXI 0x7#4 x nn
  | .ldVV x y => formatXYN 0x8#4 x y 0x0#4
  | .orVV x y => formatXYN 0x8#4 x y 0x1#4
  | .andVV x y => formatXYN 0x8#4 x y 0x2#4
  | .xorVV x y => formatXYN 0x8#4 x y 0x3#4
  | .addVV x y => formatXYN 0x8#4 x y 0x4#4
  | .sub x y => formatXYN 0x8#4 x y 0x5#4
  | .shr x y => formatXYN 0x8#4 x y 0x6#4
  | .subn x y => formatXYN 0x8#4 x y 0x7#4
  | .shl x y => formatXYN 0x8#4 x y 0xE#4
  | .sneVV x y => formatXYN 0x9#4 x y 0x0#4
  | .ldI nnn => formatA 0xA#4 nnn
  | .jpV0 nnn => formatA 0xB#4 nnn
  | .rnd x nn => formatXI 0xC#4 x nn
  | .drw x y n => formatXYN 0xD#4 x y n
  | .skp x => formatXI 0xE#4 x 0x9E#8
  | .sknp x => formatXI 0xE#4 x 0xA1#8
  | .ldVDT x => formatXI 0xF#4 x 0x07#8
  | .ldVK x => formatXI 0xF#4 x 0x0A#8
  | .ldDTV x => formatXI 0xF#4 x 0x15#8
  | .ldSTV x => formatXI 0xF#4 x 0x18#8
  | .addIV x => formatXI 0xF#4 x 0x1E#8
  | .ldFV x => formatXI 0xF#4 x 0x29#8
  | .ldBV x => formatXI 0xF#4 x 0x33#8
  | .stRegs x => formatXI 0xF#4 x 0x55#8
  | .ldRegs x => formatXI 0xF#4 x 0x65#8

/-- The high byte of a word, which lies at the lower address (R63, R90). -/
def highByte (w : Word) : Byte := w.extractLsb' 8 8

/-- The low byte of a word, which lies at the higher address (R63, R90). -/
def lowByte (w : Word) : Byte := w.extractLsb' 0 8

/-- The two bytes of an instruction as they lie in memory, lowest address first (R90). -/
def encodeBytes (i : Instr) : List Byte := [highByte (encode i), lowByte (encode i)]

/-! ### The opcode table (R96) -/

/-- The mnemonic of an instruction (R96, R100). -/
def Instr.mnemonic : Instr → String
  | .cls => "CLS"
  | .ret => "RET"
  | .jp _ => "JP"
  | .call _ => "CALL"
  | .seVN _ _ => "SE_VN"
  | .sneVN _ _ => "SNE_VN"
  | .seVV _ _ => "SE_VV"
  | .ldVN _ _ => "LD_VN"
  | .addVN _ _ => "ADD_VN"
  | .ldVV _ _ => "LD_VV"
  | .orVV _ _ => "OR"
  | .andVV _ _ => "AND"
  | .xorVV _ _ => "XOR"
  | .addVV _ _ => "ADD_VV"
  | .sub _ _ => "SUB"
  | .shr _ _ => "SHR"
  | .subn _ _ => "SUBN"
  | .shl _ _ => "SHL"
  | .sneVV _ _ => "SNE_VV"
  | .ldI _ => "LD_I"
  | .jpV0 _ => "JP_V0"
  | .rnd _ _ => "RND"
  | .drw _ _ _ => "DRW"
  | .skp _ => "SKP"
  | .sknp _ => "SKNP"
  | .ldVDT _ => "LD_V_DT"
  | .ldVK _ => "LD_V_K"
  | .ldDTV _ => "LD_DT_V"
  | .ldSTV _ => "LD_ST_V"
  | .addIV _ => "ADD_I_V"
  | .ldFV _ => "LD_F_V"
  | .ldBV _ => "LD_B_V"
  | .stRegs _ => "ST_REGS"
  | .ldRegs _ => "LD_REGS"

/-- A row of R96: a word w selects the row when w AND mask equals pattern. -/
structure OpcodeRow where
  mnemonic : String
  pattern : Word
  mask : Word
  deriving DecidableEq, Repr

/-- Families 0 to 7 of R96. -/
def opcodeTableLow : List OpcodeRow :=
  [ ⟨"CLS", 0x00E0#16, 0xFFFF#16⟩,
    ⟨"RET", 0x00EE#16, 0xFFFF#16⟩,
    ⟨"JP", 0x1000#16, 0xF000#16⟩,
    ⟨"CALL", 0x2000#16, 0xF000#16⟩,
    ⟨"SE_VN", 0x3000#16, 0xF000#16⟩,
    ⟨"SNE_VN", 0x4000#16, 0xF000#16⟩,
    ⟨"SE_VV", 0x5000#16, 0xF00F#16⟩,
    ⟨"LD_VN", 0x6000#16, 0xF000#16⟩,
    ⟨"ADD_VN", 0x7000#16, 0xF000#16⟩ ]

/-- Families 8 to D of R96. -/
def opcodeTableMiddle : List OpcodeRow :=
  [ ⟨"LD_VV", 0x8000#16, 0xF00F#16⟩,
    ⟨"OR", 0x8001#16, 0xF00F#16⟩,
    ⟨"AND", 0x8002#16, 0xF00F#16⟩,
    ⟨"XOR", 0x8003#16, 0xF00F#16⟩,
    ⟨"ADD_VV", 0x8004#16, 0xF00F#16⟩,
    ⟨"SUB", 0x8005#16, 0xF00F#16⟩,
    ⟨"SHR", 0x8006#16, 0xF00F#16⟩,
    ⟨"SUBN", 0x8007#16, 0xF00F#16⟩,
    ⟨"SHL", 0x800E#16, 0xF00F#16⟩,
    ⟨"SNE_VV", 0x9000#16, 0xF00F#16⟩,
    ⟨"LD_I", 0xA000#16, 0xF000#16⟩,
    ⟨"JP_V0", 0xB000#16, 0xF000#16⟩,
    ⟨"RND", 0xC000#16, 0xF000#16⟩,
    ⟨"DRW", 0xD000#16, 0xF000#16⟩ ]

/-- Families E and F of R96. -/
def opcodeTableHigh : List OpcodeRow :=
  [ ⟨"SKP", 0xE09E#16, 0xF0FF#16⟩,
    ⟨"SKNP", 0xE0A1#16, 0xF0FF#16⟩,
    ⟨"LD_V_DT", 0xF007#16, 0xF0FF#16⟩,
    ⟨"LD_V_K", 0xF00A#16, 0xF0FF#16⟩,
    ⟨"LD_DT_V", 0xF015#16, 0xF0FF#16⟩,
    ⟨"LD_ST_V", 0xF018#16, 0xF0FF#16⟩,
    ⟨"ADD_I_V", 0xF01E#16, 0xF0FF#16⟩,
    ⟨"LD_F_V", 0xF029#16, 0xF0FF#16⟩,
    ⟨"LD_B_V", 0xF033#16, 0xF0FF#16⟩,
    ⟨"ST_REGS", 0xF055#16, 0xF0FF#16⟩,
    ⟨"LD_REGS", 0xF065#16, 0xF0FF#16⟩ ]

/-- The complete opcode table of R96, 34 rows. -/
def opcodeTable : List OpcodeRow := opcodeTableLow ++ opcodeTableMiddle ++ opcodeTableHigh

/-- A word selects a row. -/
def OpcodeRow.selects (row : OpcodeRow) (w : Word) : Bool := w &&& row.mask == row.pattern

/-! ### The host's numbering of a row's bits -/

/-- The bytes of an instruction whose bits, numbered as spec/opcode_table.json numbers them, are w: bits 15..8 are the
high byte, at the lower address; bits at nbits and above are 0. -/
def tableWordBytes (nbits w : Nat) : List Byte :=
  let word : Word := BitVec.ofNat 16 (w % 2 ^ nbits)
  [highByte word, lowByte word]

/-- The instruction the decoder reads from a table word, none where it rejects it. -/
def decodeTableWord (nbits w : Nat) : Option Instr :=
  match decodeBytes (tableWordBytes nbits w) with
  | .instr i => some i
  | .invalidOpcode _ => none
  | .truncated => none

end Sys2Proof
end

