-- ==== Sys2Proof/Config.lean ====
section
/-! DEFINITION. The implementation parameters of spec/00_scope.md R5, the font (spec/10_state.md R34) and the one free
value of this hardware, the random byte of CXNN (spec/42_alu.md R181, decision D14). KEY_PICK (D11, the lowest id) and
VF_ORDER (D5, flag last) are coded in Machine/Keypad.lean (`pickKey`) and Machine/Flags.lean (`writeResultThenFlag`). -/

namespace Sys2Proof.Config

/-- MEM_SIZE: addresses 0x000..0xFFF (R5, R60). -/
abbrev memSize : Nat := 4096

/-- STACK_DEPTH (R5, R29). -/
abbrev stackDepth : Nat := 16

/-- NKEYS: ids 0x0..0xF (R5, R37). -/
abbrev numKeys : Nat := 16

/-- DISP_W (R5, R36). -/
abbrev displayWidth : Nat := 64

/-- DISP_H (R5, R36). -/
abbrev displayHeight : Nat := 32

/-- PROG_BASE, where the ROM image lands, and the reset PC (R5, R61). -/
abbrev progBase : Nat := 0x200

/-- MAX_ROM (R5, R62). -/
abbrev maxRom : Nat := 3584

/-- The 16 glyphs of FONT, five bytes each, glyph g at address 5*g (R34). Glyphs 0 and F are the source's.
PRESUMED: glyphs 1 to E are the commonly published CHIP-8 ones that R34 and G1 supply from general knowledge
(unsafe; notes/assumptions/4.md). -/
def glyphs : List (List Byte) :=
  [ [0xF0, 0x90, 0x90, 0x90, 0xF0],
    [0x20, 0x60, 0x20, 0x20, 0x70],
    [0xF0, 0x10, 0xF0, 0x80, 0xF0],
    [0xF0, 0x10, 0xF0, 0x10, 0xF0],
    [0x90, 0x90, 0xF0, 0x10, 0x10],
    [0xF0, 0x80, 0xF0, 0x10, 0xF0],
    [0xF0, 0x80, 0xF0, 0x90, 0xF0],
    [0xF0, 0x10, 0x20, 0x40, 0x40],
    [0xF0, 0x90, 0xF0, 0x90, 0xF0],
    [0xF0, 0x90, 0xF0, 0x10, 0xF0],
    [0xF0, 0x90, 0xF0, 0x90, 0x90],
    [0xE0, 0x90, 0xE0, 0x90, 0xE0],
    [0xF0, 0x80, 0x80, 0x80, 0xF0],
    [0xE0, 0x90, 0x90, 0x90, 0xE0],
    [0xF0, 0x80, 0xF0, 0x80, 0xF0],
    [0xF0, 0x80, 0xF0, 0x80, 0x80] ]

/-- FONT, the 80 bytes INIT places at 0x000..0x04F (R34, C1). -/
def font : List Byte := glyphs.flatten

/-- RND: the byte that the n-th execution of CXNN draws. A free value: it has no body, so nothing can be proved about it
but its width (R181, D14, U6; safe; notes/assumptions/3.md). -/
opaque rnd : Nat → Byte

end Sys2Proof.Config
end

