-- ==== Sys2Proof/Machine/State.lean ====
section
/-! DEFINITION. The state of one machine (spec/10_state.md R20) as plain data, its value after reset (R41), and the
reasons for which a step stops. -/

namespace Sys2Proof.Machine

/-- The statuses an event returns (spec/60_exceptions.md R270). -/
inductive Status where
  | ok
  | invalidOpcode
  | stackOverflow
  | stackUnderflow
  | memoryOutOfRange
  | invalidKeyIndex
  | initError
  deriving DecidableEq, Repr

/-- MODE, the interpreter state (spec/10_state.md R38): running, or awaiting a key for register x. -/
inductive Mode where
  | running
  | awaitingKey (x : Nibble)
  deriving DecidableEq, Repr

/-- The events that act on a machine (spec/40_step_cycle.md R121). The queries change nothing and are functions of State
(`getPixel`, `getDT`, `getST`, `tone`). -/
inductive Event where
  /-- INIT(rom), by the host (R310) -/
  | init (rom : List Byte)
  /-- STEP, by the interpreter (R122) -/
  | step
  /-- TICK, by the timer driver (R256) -/
  | tick
  /-- SETKEY(id, pressed), by the host (R231); id is 8 bits (D18) -/
  | setKey (id : Byte) (pressed : Bool)
  deriving DecidableEq, Repr

/-- MEM as (address, byte) pairs: addresses strictly rising and below 0x1000, no pair equal to what INIT puts at its
address (`Memory.wf` of Machine/Ops.lean says so). An address without a pair reads as INIT left it (R41). -/
abbrev Memory := List Host.Cell

/-- FB, the framebuffer: FB[x][y] is the pixel at column x, row y (spec/10_state.md R36). -/
abbrev FrameBuffer := Vector (Vector Bool 32) 64

/-- Why a step stops with a fault. -/
inductive Fault where
  /-- Raised by Push (CALL) when SP > 16 and by Pop (RET) when SP > 16: a value R28 says SP never takes, so no slot
  exists for it. Safe: the machine stops where the spec describes no machine; no run reaches it
  (notes/assumptions/9.md). -/
  | stackPointerOutOfRange
  deriving DecidableEq, Repr

/-- Why a step is refused. -/
inductive Refusal where
  /-- Raised by an arm of `exec` for an instruction that has no meaning yet; no arm does. Safe. -/
  | notModelled (mnemonic : String)
  /-- Raised by STEP, TICK and SETKEY on a machine that does not exist: before a successful INIT, or after a failed one
  (spec/40_step_cycle.md R130, spec/70_reset_and_hazards.md R311, D19). Safe. -/
  | noMachine
  deriving DecidableEq, Repr

/-- The complete state (R20), and below it the model's own fields. -/
structure State where
  /-- V0..VF (R21); VF is also the flag register (R22) -/
  v : Vector Byte 16
  /-- I, the index register; always at most 0xFFF (R27) -/
  i : Word
  /-- PC, never masked, may be odd (R24, R26) -/
  pc : Word
  /-- SP, the number of return addresses held, 0..16 (R28) -/
  sp : Byte
  /-- STACK, not part of memory (R29) -/
  stack : Vector Word 16
  /-- DT, the delay timer (R32) -/
  dt : Byte
  /-- ST, the sound timer (R33) -/
  st : Byte
  /-- MEM (R35, R60) -/
  mem : Memory
  /-- FB (R36) -/
  fb : FrameBuffer
  /-- KEY, 1 means pressed (R37) -/
  key : Vector Bool 16
  /-- MODE (R38) -/
  mode : Mode
  /-- KPREV, the key snapshot of the wait (R39, D10) -/
  kprev : Vector Bool 16
  /-- The model's own: how many random bytes CXNN has drawn; the next is `Config.rnd draws` (notes/assumptions/3.md). -/
  draws : Nat
  /-- The model's own: the status the latest event that returns one has returned (an output, R40 (b), R276;
  notes/assumptions/1.md). -/
  status : Status
  /-- The model's own: some event since the latest successful INIT returned an error (the sticky mark of R276;
  notes/assumptions/1.md). -/
  faultMark : Bool
  /-- The model's own: a machine exists (R130, R311; notes/assumptions/8.md). -/
  live : Bool
  /-- The model's own: the events to come, oldest first; when it is empty the next event is a STEP (R129, D24;
  notes/assumptions/2.md). -/
  schedule : List Event
  deriving DecidableEq, Repr

/-- The state after INIT with an empty ROM (R41). DESIGN CHOICE where the spec gives no value: the stack slots
(notes/assumptions/5.md) and the model's own fields (notes/assumptions/1.md to 3.md). DT, ST, KEY and KPREV are the
spec's decisions D15 and D10 (notes/assumptions/6.md, 7.md). -/
def State.reset : State where
  v := Vector.replicate 16 0
  i := 0
  pc := BitVec.ofNat 16 Config.progBase
  sp := 0
  stack := Vector.replicate 16 0
  dt := 0
  st := 0
  mem := []
  fb := Vector.replicate 64 (Vector.replicate 32 false)
  key := Vector.replicate 16 false
  mode := .running
  kprev := Vector.replicate 16 false
  draws := 0
  status := .ok
  faultMark := false
  live := true
  schedule := []

/-- What an attempt that can raise an error yields (R275): a result, the error status, or a fault of the model. -/
inductive Attempt (α : Type) where
  | done (a : α)
  | raised (e : Status)
  | broken (f : Fault)
  deriving DecidableEq, Repr

/-- The outcome type of every step and meaning. -/
abbrev Result := Host.Outcome State Fault Refusal

end Sys2Proof.Machine
end

