-- ==== Sys2Proof/Machine/Ops.lean ====
section
/-! DEFINITION. The named operations over memory, registers and the stack (spec/00_scope.md R9), one setter per field,
raising an error (spec/60_exceptions.md R275), and the fetch (spec/40_step_cycle.md R124 to R126). -/

namespace Sys2Proof.Machine

/-! ### Memory (spec/20_memory.md) -/

/-- What INIT leaves at an address outside the ROM image: the font at 0x000..0x04F, zero elsewhere (R41, R61). This is
what an address with no pair reads as. -/
def Memory.unlisted (a : Nat) : Byte := Config.font.getD a 0

/-- The byte at an address (R70: reading changes nothing). -/
def Memory.read : Memory → Nat → Byte
  | [], a => Memory.unlisted a
  | (b, x) :: rest, a => if a = b then x else Memory.read rest a

/-- Placing a byte in the list, keeping the canonical form. -/
def Memory.place : Memory → Nat → Byte → Memory
  | [], a, x => if x = Memory.unlisted a then [] else [(a, x)]
  | (b, y) :: rest, a, x =>
    if a < b then
      if x = Memory.unlisted a then (b, y) :: rest else (a, x) :: (b, y) :: rest
    else if a = b then
      if x = Memory.unlisted a then rest else (a, x) :: rest
    else (b, y) :: Memory.place rest a x

/-- MemWrite(a, 1, x) once its bound has been checked. An access at 0x1000 or above does not happen (R66). -/
def Memory.write (m : Memory) (a : Nat) (x : Byte) : Memory :=
  if a < Config.memSize then Memory.place m a x else m

/-- Writing consecutive bytes from address a upwards. -/
def Memory.writeAll : Memory → Nat → List Byte → Memory
  | m, _, [] => m
  | m, a, x :: xs => Memory.writeAll (Memory.write m a x) (a + 1) xs

/-- The pairs of a list lie at rising addresses from `low` on, below 0x1000, and each differs from what its address
reads as without it. -/
def Memory.wfFrom : Nat → Memory → Bool
  | _, [] => true
  | low, (a, x) :: rest =>
    decide (low ≤ a) && decide (a < Config.memSize) && decide (x ≠ Memory.unlisted a) && Memory.wfFrom (a + 1) rest

/-- The canonical form: equal memories are equal lists. -/
def Memory.wf (m : Memory) : Bool := Memory.wfFrom 0 m

/-! ### One setter per field -/

/-- Writes I. -/
def State.setI (w : Word) (s : State) : State := { s with i := w }
/-- Writes PC. -/
def State.setPc (w : Word) (s : State) : State := { s with pc := w }
/-- Writes SP. -/
def State.setSp (b : Byte) (s : State) : State := { s with sp := b }
/-- Writes DT. -/
def State.setDt (b : Byte) (s : State) : State := { s with dt := b }
/-- Writes ST. -/
def State.setSt (b : Byte) (s : State) : State := { s with st := b }
/-- Replaces MEM. -/
def State.setMem (m : Memory) (s : State) : State := { s with mem := m }
/-- Replaces FB. -/
def State.setFb (f : FrameBuffer) (s : State) : State := { s with fb := f }
/-- Replaces KEY. -/
def State.setKeys (k : Vector Bool 16) (s : State) : State := { s with key := k }
/-- Writes MODE. -/
def State.setMode (m : Mode) (s : State) : State := { s with mode := m }
/-- Replaces KPREV. -/
def State.setKprev (k : Vector Bool 16) (s : State) : State := { s with kprev := k }
/-- Writes the draw counter (the model's own). -/
def State.setDraws (n : Nat) (s : State) : State := { s with draws := n }
/-- Writes the status output (the model's own). -/
def State.setStatus (e : Status) (s : State) : State := { s with status := e }
/-- Writes the sticky mark (the model's own). -/
def State.setFaultMark (b : Bool) (s : State) : State := { s with faultMark := b }
/-- Says whether a machine exists (the model's own). -/
def State.setLive (b : Bool) (s : State) : State := { s with live := b }
/-- Replaces the events to come (the model's own). -/
def State.setSchedule (es : List Event) (s : State) : State := { s with schedule := es }

/-! ### Registers, flags and pixels by index -/

/-- VF, the flag register (R22). -/
def vf : Nibble := 0xF#4

/-- V[x] (R9, R21). -/
def State.readV (s : State) (x : Nibble) : Byte := s.v[x.toNat]'x.isLt

/-- V[x] <- b (R9, R21): all sixteen registers are ordinary, none is hard-wired. -/
def State.setV (x : Nibble) (b : Byte) (s : State) : State := { s with v := s.v.set x.toNat b x.isLt }

/-- STACK[k] (R29). -/
def State.slot (s : State) (k : Nibble) : Word := s.stack[k.toNat]'k.isLt

/-- STACK[k] <- w (R29). -/
def State.setSlot (k : Nibble) (w : Word) (s : State) : State :=
  { s with stack := s.stack.set k.toNat w k.isLt }

/-- KEY[k] (R37). -/
def State.keyDown (s : State) (k : Nibble) : Bool := s.key[k.toNat]'k.isLt

/-- KPREV[k] (R39). -/
def State.keyWasDown (s : State) (k : Nibble) : Bool := s.kprev[k.toNat]'k.isLt

/-- MEM[a]. -/
def State.readByte (s : State) (a : Nat) : Byte := s.mem.read a

/-- FB[x][y], column x and row y (R36). -/
def FrameBuffer.get (fb : FrameBuffer) (x : Fin 64) (y : Fin 32) : Bool := fb[x.val][y.val]

/-- FB[x][y] <- b. -/
def FrameBuffer.set (fb : FrameBuffer) (x : Fin 64) (y : Fin 32) (b : Bool) : FrameBuffer :=
  Vector.set fb x.val (Vector.set fb[x.val] y.val b)

/-- Clear(): the grid of all 0 (R211). -/
def FrameBuffer.blank : FrameBuffer := Vector.replicate 64 (Vector.replicate 32 false)

/-- FB[x][y] of a state. -/
def State.pixel (s : State) (x : Fin 64) (y : Fin 32) : Bool := s.fb.get x y

/-! ### Statuses (spec/60_exceptions.md) -/

/-- The numeric code of a status (R270, D2). -/
def statusCode : Status → Nat
  | .ok => 0
  | .invalidOpcode => 1
  | .stackOverflow => 2
  | .stackUnderflow => 3
  | .memoryOutOfRange => 4
  | .invalidKeyIndex => 5
  | .initError => 6

/-- The event returns Ok. -/
def complete (s : State) : State := s.setStatus .ok

/-- TAKING AN EXCEPTION: `raise e` (R275, R276, R283). The event returns e; nothing is saved, no mode changes and no
handler is entered: control stays in the program, at the PC of s (which a STEP has already advanced). There is no return
from it (R284). The sticky mark is the model's own (notes/assumptions/1.md). -/
def raise (e : Status) (s : State) : State := (s.setStatus e).setFaultMark true

/-- Ends an instruction: Ok with its effect, or the error with every effect discarded (R275). s is the state in which
the execute stage began. -/
def conclude (s : State) : Attempt State → Result
  | .done t => .next (complete t)
  | .raised e => .next (raise e s)
  | .broken f => .fault f

/-! ### Memory blocks (spec/20_memory.md R66, R69) -/

/-- The len bytes from base on all lie at or below 0xFFF; a block of no bytes always does (R66, R214). The sum is not
reduced modulo 4096. -/
def blockInRange (base len : Nat) : Bool := len == 0 || decide (base + len ≤ Config.memSize)

/-- MEM[base], ..., MEM[base + len - 1], the highest address checked first (R69). -/
def readBlock (s : State) (base len : Nat) : Attempt (List Byte) :=
  if blockInRange base len then .done ((List.range len).map fun k => s.readByte (base + k))
  else .raised .memoryOutOfRange

/-- Stores consecutive bytes from base on, the highest address checked first: all or nothing (R69, D4). -/
def writeBlock (s : State) (base : Nat) (bytes : List Byte) : Attempt State :=
  if blockInRange base bytes.length then .done (s.setMem (s.mem.writeAll base bytes))
  else .raised .memoryOutOfRange

/-! ### The stack (spec/10_state.md R30, R31) -/

/-- Push(w): at SP = 16 it raises StackOverflow with SP and STACK unchanged; otherwise it writes the slot at the old SP,
then increments SP (R30). -/
def push (w : Word) (s : State) : Attempt State :=
  if s.sp.toNat < Config.stackDepth then .done ((s.setSlot (BitVec.ofNat 4 s.sp.toNat) w).setSp (s.sp + 1))
  else if s.sp.toNat = Config.stackDepth then .raised .stackOverflow
  else .broken .stackPointerOutOfRange

/-- Pop(): at SP = 0 it raises StackUnderflow with SP unchanged; otherwise it decrements SP and answers the slot at the
new SP, which keeps its value (R31, D22). -/
def pop (s : State) : Attempt (Word × State) :=
  if s.sp.toNat = 0 then .raised .stackUnderflow
  else if s.sp.toNat ≤ Config.stackDepth then
    .done (s.slot (BitVec.ofNat 4 (s.sp.toNat - 1)), s.setSp (s.sp - 1))
  else .broken .stackPointerOutOfRange

/-! ### Fetch and advance (spec/40_step_cycle.md) -/

/-- The two bytes at PC and PC + 1; when PC + 1 is above 0xFFF the fetch raises MemoryOutOfRange (R124, R126). -/
def fetch (s : State) : Attempt (List Byte) := readBlock s s.pc.toNat 2

/-- PC <- PC + 2, before the instruction executes (R125). -/
def advance (s : State) : State := s.setPc (s.pc + 2#16)

/-- The PC allows a fetch: PC + 1 is at most 0xFFF (R126). -/
def fetchable (s : State) : Bool := blockInRange s.pc.toNat 2

/-- The state whose very next step fetches the given two bytes: they lie at PC and PC + 1, the machine exists, is running
and has no other event to serve first; a PC at which no fetch is possible (R126) becomes the reset PC. -/
def placeWord (s : State) (bytes : List Byte) : State :=
  let at0 : State := if fetchable s then s else s.setPc (BitVec.ofNat 16 Config.progBase)
  (((at0.setMem (at0.mem.writeAll at0.pc.toNat bytes)).setMode .running).setLive true).setSchedule []

end Sys2Proof.Machine
end

