-- ==== Sys2Proof/Machine/Flags.lean ====
section
/-! DEFINITION. The flag unit: carry, not-borrow, the shifted-out bits, and the order in which a result and its flag are
written (spec/10_state.md R22; spec/42_alu.md R170, R171). -/

namespace Sys2Proof.Machine

/-- A flag as VF holds it: 0x00 or 0x01 (R22, R171 step 4). -/
def flagByte (flag : Bool) : Byte := if flag then 1 else 0

/-- The carry of an 8-bit add: the true sum exceeds 255 (R170 (b), R172). -/
def carryOut (a b : Byte) : Bool := decide (a.toNat + b.toNat > 255)

/-- No borrow in a - b: a >= b (R170 (c), R173, R175). -/
def notBorrow (a b : Byte) : Bool := decide (a.toNat ≥ b.toNat)

/-- The bit a right shift by one moves out: bit 0 (R174). -/
def shiftedOutRight (a : Byte) : Bool := a.getLsbD 0

/-- The bit a left shift by one moves out: bit 7 (R176). -/
def shiftedOutLeft (a : Byte) : Bool := a.getLsbD 7

/-- VF <- flag. -/
def writeFlag (flag : Bool) (s : State) : State := s.setV vf (flagByte flag)

/-- V[x] <- result, then VF <- flag: the flag is written last, so with x = F it survives (R171, D5, C8). -/
def writeResultThenFlag (x : Nibble) (result : Byte) (flag : Bool) (s : State) : State :=
  writeFlag flag (s.setV x result)

end Sys2Proof.Machine
end

