-- ==== Sys2Proof/Machine/Alu.lean ====
section
/-! DEFINITION. Load, arithmetic, logic, shift and random instructions (spec/42_alu.md). Every register on the right-hand
side is read before the instruction writes; none of them raises an error. -/

namespace Sys2Proof.Machine

/-- LD_VN, 6XNN: V[X] <- NN (R161). -/
def execLdVN (x : Nibble) (nn : Byte) (s : State) : Result :=
  conclude s (.done (s.setV x nn))

/-- ADD_VN, 7XNN: V[X] <- V[X] + NN modulo 256, no flag (R162). -/
def execAddVN (x : Nibble) (nn : Byte) (s : State) : Result :=
  conclude s (.done (s.setV x (s.readV x + nn)))

/-- LD_VV, 8XY0: V[X] <- V[Y] (R163). -/
def execLdVV (x y : Nibble) (s : State) : Result :=
  conclude s (.done (s.setV x (s.readV y)))

/-- OR, 8XY1: V[X] <- V[X] | V[Y], no flag (R164). -/
def execOrVV (x y : Nibble) (s : State) : Result :=
  conclude s (.done (s.setV x (s.readV x ||| s.readV y)))

/-- AND, 8XY2: V[X] <- V[X] & V[Y], no flag (R165). -/
def execAndVV (x y : Nibble) (s : State) : Result :=
  conclude s (.done (s.setV x (s.readV x &&& s.readV y)))

/-- XOR, 8XY3: V[X] <- V[X] ^ V[Y], no flag (R166). -/
def execXorVV (x y : Nibble) (s : State) : Result :=
  conclude s (.done (s.setV x (s.readV x ^^^ s.readV y)))

/-- ADD_VV, 8XY4: V[X] <- V[X] + V[Y] modulo 256, VF <- carry (R172). -/
def execAddVV (x y : Nibble) (s : State) : Result :=
  conclude s (.done (writeResultThenFlag x (s.readV x + s.readV y) (carryOut (s.readV x) (s.readV y)) s))

/-- SUB, 8XY5: V[X] <- V[X] - V[Y] modulo 256, VF <- no borrow (R173). -/
def execSub (x y : Nibble) (s : State) : Result :=
  conclude s (.done (writeResultThenFlag x (s.readV x - s.readV y) (notBorrow (s.readV x) (s.readV y)) s))

/-- SHR, 8XY6: V[X] <- V[X] >> 1, VF <- the old bit 0; V[Y] is not read (R174). -/
def execShr (x _y : Nibble) (s : State) : Result :=
  conclude s (.done (writeResultThenFlag x (s.readV x >>> 1) (shiftedOutRight (s.readV x)) s))

/-- SUBN, 8XY7: V[X] <- V[Y] - V[X] modulo 256, VF <- no borrow (R175). -/
def execSubn (x y : Nibble) (s : State) : Result :=
  conclude s (.done (writeResultThenFlag x (s.readV y - s.readV x) (notBorrow (s.readV y) (s.readV x)) s))

/-- SHL, 8XYE: V[X] <- V[X] << 1, VF <- the old bit 7; V[Y] is not read (R176). -/
def execShl (x _y : Nibble) (s : State) : Result :=
  conclude s (.done (writeResultThenFlag x (s.readV x <<< 1) (shiftedOutLeft (s.readV x)) s))

/-- RND, CXNN: V[X] <- rnd & NN, where rnd is a free value fresh to this execution (R181, D14). -/
def execRnd (x : Nibble) (nn : Byte) (s : State) : Result :=
  conclude s (.done ((s.setV x (Config.rnd s.draws &&& nn)).setDraws (s.draws + 1)))

end Sys2Proof.Machine
end

