-- ==== Sys2Proof/Machine/Operands.lean ====
section
/-! DEFINITION. Operand forms (spec/30_encoding.md R93; spec/43_index_memory.md R190): zero-extended immediates and
registers, the 12-bit mask of I, the base of a data block, the registers V0..VX of a block, decimal digits, and the
skip. -/

namespace Sys2Proof.Machine

/-- An address immediate as a 16-bit address, bits 15..12 zero (R93). -/
def addressOf (nnn : Imm12) : Word := nnn.setWidth 16

/-- A register value as a 16-bit number (R7: zext_16). -/
def extended (b : Byte) : Word := b.setWidth 16

/-- The value I may hold: reduced to 12 bits (R27, D3). -/
def maskIndex (w : Word) : Word := w &&& 0x0FFF#16

/-- The address of byte 0 of a data block: I itself (R190). -/
def blockBase (s : State) : Nat := s.i.toNat

/-- How many registers a block names by X: V0..VX inclusive (R195, R196, C3). -/
def blockCount (x : Nibble) : Nat := x.toNat + 1

/-- The values of V0..VX, lowest register first (R195). -/
def registersUpTo (s : State) (x : Nibble) : List Byte :=
  (List.range (blockCount x)).map fun k => s.readV (BitVec.ofNat 4 k)

/-- V[k] <- bytes[0], V[k + 1] <- bytes[1], ... (R196). -/
def loadRegistersFrom : Nat → List Byte → State → State
  | _, [], s => s
  | k, b :: bs, s => loadRegistersFrom (k + 1) bs (s.setV (BitVec.ofNat 4 k) b)

/-- The hundreds, tens and ones of a byte, each a byte holding its digit (R194). -/
def decimalDigits (b : Byte) : List Byte := [b / 100#8, (b / 10#8) % 10#8, b % 10#8]

/-- The skip: PC <- PC + 2 on the PC already advanced, when the condition holds (R9, R140 (d)). -/
def skipIf (condition : Bool) (s : State) : State :=
  if condition then s.setPc (s.pc + 2#16) else s

end Sys2Proof.Machine
end

