-- ==== Sys2Proof/Machine/Display.lean ====
section
/-! DEFINITION. The framebuffer, the XOR sprite compositor with its collision detector, CLS, DRW and GETPIXEL
(spec/44_display.md). -/

namespace Sys2Proof.Machine

/-- The column of bit b of a sprite at x: (x + b) mod 64, the sum not wrapped at 8 bits (R212). -/
def spriteColumn (x : Byte) (b : Nat) : Fin 64 := Fin.ofNat 64 (x.toNat + b)

/-- The row of row r of a sprite at y: (y + r) mod 32 (R212). -/
def spriteRow (y : Byte) (r : Nat) : Fin 32 := Fin.ofNat 32 (y.toNat + r)

/-- Bit b of a sprite row, b = 0 the most significant and leftmost (R212: rows[r][7 - b]). -/
def spriteBit (row : Byte) (b : Nat) : Bool := row.getMsbD b

/-- The framebuffer and the collision so far, while a sprite is drawn. -/
abbrev Canvas := FrameBuffer × Bool

/-- One bit of a sprite: a 1 toggles its pixel, and a pixel that was 1 is a collision; a 0 does nothing (R212, R213). -/
def drawBit (x y : Byte) (r : Nat) (row : Byte) (canvas : Canvas) (b : Nat) : Canvas :=
  if spriteBit row b then
    let px := spriteColumn x b
    let py := spriteRow y r
    let old := canvas.1.get px py
    (canvas.1.set px py (!old), canvas.2 || old)
  else canvas

/-- The eight bits of row r, b = 0 first (R212). -/
def drawRow (x y : Byte) (r : Nat) (row : Byte) (canvas : Canvas) : Canvas :=
  [0, 1, 2, 3, 4, 5, 6, 7].foldl (drawBit x y r row) canvas

/-- The rows from row r on (R212). -/
def drawRows (x y : Byte) : Nat → List Byte → Canvas → Canvas
  | _, [], canvas => canvas
  | r, row :: rows, canvas => drawRows x y (r + 1) rows (drawRow x y r row canvas)

/-- DrawSprite(x, y, rows): the new framebuffer and the collision (R212). -/
def drawSprite (fb : FrameBuffer) (x y : Byte) (rows : List Byte) : Canvas :=
  drawRows x y 0 rows (fb, false)

/-- CLS, 00E0: every pixel <- 0 (R211). -/
def execCls (s : State) : Result :=
  conclude s (.done (s.setFb FrameBuffer.blank))

/-- DRW, DXYN: the N rows at I drawn at (Vx, Vy), both read before VF <- collision (R214). -/
def execDrw (x y n : Nibble) (s : State) : Result :=
  match readBlock s (blockBase s) n.toNat with
  | .done rows =>
    let drawn := drawSprite s.fb (s.readV x) (s.readV y) rows
    conclude s (.done (writeFlag drawn.2 (s.setFb drawn.1)))
  | .raised e => conclude s (.raised e)
  | .broken f => conclude s (.broken f)

/-- GETPIXEL(x, y), x 6 bits and y 5 bits (R219, D17); no answer where no machine exists (R130, U12). -/
def getPixel (s : State) (x : Fin 64) (y : Fin 32) : Option Bool :=
  if s.live then some (s.fb.get x y) else none

end Sys2Proof.Machine
end

