-- ==== Sys2Proof/Machine/Flow.lean ====
section
/-! DEFINITION. Control transfer and skip instructions (spec/41_flow.md). Each meaning runs on the state whose PC is
already the instruction's address plus 2. -/

namespace Sys2Proof.Machine

/-- RET, 00EE: PC <- Pop() (R141). -/
def execRet (s : State) : Result :=
  match pop s with
  | .done (w, t) => conclude s (.done (t.setPc w))
  | .raised e => conclude s (.raised e)
  | .broken f => conclude s (.broken f)

/-- JP, 1NNN: PC <- NNN (R142). -/
def execJp (nnn : Imm12) (s : State) : Result :=
  conclude s (.done (s.setPc (addressOf nnn)))

/-- CALL, 2NNN: Push(PC); PC <- NNN (R143). -/
def execCall (nnn : Imm12) (s : State) : Result :=
  match push s.pc s with
  | .done t => conclude s (.done (t.setPc (addressOf nnn)))
  | .raised e => conclude s (.raised e)
  | .broken f => conclude s (.broken f)

/-- SE_VN, 3XNN: skip if Vx = NN (R144). -/
def execSeVN (x : Nibble) (nn : Byte) (s : State) : Result :=
  conclude s (.done (skipIf (s.readV x == nn) s))

/-- SNE_VN, 4XNN: skip if Vx differs from NN (R145). -/
def execSneVN (x : Nibble) (nn : Byte) (s : State) : Result :=
  conclude s (.done (skipIf (s.readV x != nn) s))

/-- SE_VV, 5XY0: skip if Vx = Vy (R146). -/
def execSeVV (x y : Nibble) (s : State) : Result :=
  conclude s (.done (skipIf (s.readV x == s.readV y) s))

/-- SNE_VV, 9XY0: skip if Vx differs from Vy (R147). -/
def execSneVV (x y : Nibble) (s : State) : Result :=
  conclude s (.done (skipIf (s.readV x != s.readV y) s))

/-- JP_V0, BNNN: PC <- NNN + V0, in 16 bits and not reduced to 12 (R148, D7). -/
def execJpV0 (nnn : Imm12) (s : State) : Result :=
  conclude s (.done (s.setPc (addressOf nnn + extended (s.readV 0#4))))

end Sys2Proof.Machine
end

