-- ==== Sys2Proof/Machine/IndexMemory.lean ====
section
/-! DEFINITION. Index register, BCD and block load and store instructions (spec/43_index_memory.md). I is the base of
every data access and no block instruction changes it (R190). -/

namespace Sys2Proof.Machine

/-- LD_I, ANNN: I <- NNN (R191). -/
def execLdI (nnn : Imm12) (s : State) : Result :=
  conclude s (.done (s.setI (addressOf nnn)))

/-- ADD_I_V, FX1E: I <- (I + Vx) & 0x0FFF, no flag (R192). -/
def execAddIV (x : Nibble) (s : State) : Result :=
  conclude s (.done (s.setI (maskIndex (s.i + extended (s.readV x)))))

/-- LD_F_V, FX29: I <- (5 * Vx) & 0x0FFF, all 8 bits of Vx taking part (R193, D13). -/
def execLdFV (x : Nibble) (s : State) : Result :=
  conclude s (.done (s.setI (maskIndex (extended (s.readV x) * 5#16))))

/-- LD_B_V, FX33: the three decimal digits of Vx at I, I + 1, I + 2 (R194). -/
def execLdBV (x : Nibble) (s : State) : Result :=
  conclude s (writeBlock s (blockBase s) (decimalDigits (s.readV x)))

/-- ST_REGS, FX55: V0..VX to I..I+X (R195). -/
def execStRegs (x : Nibble) (s : State) : Result :=
  conclude s (writeBlock s (blockBase s) (registersUpTo s x))

/-- LD_REGS, FX65: I..I+X into V0..VX (R196). -/
def execLdRegs (x : Nibble) (s : State) : Result :=
  match readBlock s (blockBase s) (blockCount x) with
  | .done bytes => conclude s (.done (loadRegistersFrom 0 bytes s))
  | .raised e => conclude s (.raised e)
  | .broken f => conclude s (.broken f)

end Sys2Proof.Machine
end

