-- ==== Sys2Proof/Machine/Keypad.lean ====
section
/-! DEFINITION. The keypad: SETKEY, the keypad skips, and the blocking key wait (spec/45_keypad.md). -/

namespace Sys2Proof.Machine

/-- An 8-bit key id names a key: 0..15 (R231, R232, D12, D18). -/
def keyIdValid (id : Byte) : Bool := decide (id.toNat < Config.numKeys)

/-- The key an 8-bit id names, once it is valid. -/
def keyOfId (id : Byte) : Nibble := id.setWidth 4

/-- KEY[k] <- pressed. -/
def State.setKey (k : Nibble) (pressed : Bool) (s : State) : State :=
  s.setKeys (s.key.set k.toNat pressed k.isLt)

/-- The event SETKEY(id, pressed): InvalidKeyIndex with KEY unchanged for an id above 15, else KEY[id] <- pressed and Ok
(R231). -/
def setKeyEvent (id : Byte) (pressed : Bool) (s : State) : State :=
  if keyIdValid id then complete (s.setKey (keyOfId id) pressed) else raise .invalidKeyIndex s

/-- The skip on the level of the key whose id is Vx; an id above 15 raises InvalidKeyIndex (R232). -/
def skipOnKey (x : Nibble) (level : Bool) (s : State) : Attempt State :=
  if keyIdValid (s.readV x) then .done (skipIf (s.keyDown (keyOfId (s.readV x)) == level) s)
  else .raised .invalidKeyIndex

/-- SKP, EX9E: skip if key Vx is pressed (R233). -/
def execSkp (x : Nibble) (s : State) : Result :=
  conclude s (skipOnKey x true s)

/-- SKNP, EXA1: skip if key Vx is not pressed (R234). -/
def execSknp (x : Nibble) (s : State) : Result :=
  conclude s (skipOnKey x false s)

/-- LD_V_K, FX0A: KPREV <- KEY; MODE <- AWAITING_KEY(X). Vx is written by the STEP that resumes (R238). -/
def execLdVK (x : Nibble) (s : State) : Result :=
  conclude s (.done ((s.setKprev s.key).setMode (.awaitingKey x)))

/-- Key k has gone down since the last sample: KEY[k] = 1 and KPREV[k] = 0 (R242, D10). -/
def transitioned (s : State) (k : Nibble) : Bool := s.keyDown k && !s.keyWasDown k

/-- The key ids, lowest first. -/
def keyIds : List Nibble := (List.range Config.numKeys).map (BitVec.ofNat 4)

/-- The key FX0A reports: the lowest that has gone down, if any (R241, KEY_PICK, D11). -/
def pickKey (s : State) : Option Nibble := keyIds.find? (transitioned s)

/-- A STEP in AWAITING_KEY(x): with no transition it only samples the keys (R240); with one it writes the key's id to
V[x], returns to RUNNING and fetches nothing (R241, D9). Both return Ok (D26). -/
def awaitStep (x : Nibble) (s : State) : State :=
  match pickKey s with
  | none => complete (s.setKprev s.key)
  | some k => complete ((s.setV x (k.setWidth 8)).setMode .running)

end Sys2Proof.Machine
end

