-- ==== Sys2Proof/Machine/Timers.lean ====
section
/-! DEFINITION. The two timers: FX07, FX15, FX18, the event TICK, and the outputs TONE, GETDT and GETST
(spec/46_timers.md). -/

namespace Sys2Proof.Machine

/-- LD_V_DT, FX07: V[X] <- DT (R251). -/
def execLdVDT (x : Nibble) (s : State) : Result :=
  conclude s (.done (s.setV x s.dt))

/-- LD_DT_V, FX15: DT <- V[X] (R252). -/
def execLdDTV (x : Nibble) (s : State) : Result :=
  conclude s (.done (s.setDt (s.readV x)))

/-- LD_ST_V, FX18: ST <- V[X] (R253). -/
def execLdSTV (x : Nibble) (s : State) : Result :=
  conclude s (.done (s.setSt (s.readV x)))

/-- One count down, stopping at 0 (R256). -/
def countDown (t : Byte) : Byte := if t = 0 then 0 else t - 1

/-- The event TICK: each timer counts down on its own; nothing else changes, and no status is returned (R256). -/
def tickEvent (s : State) : State := (s.setDt (countDown s.dt)).setSt (countDown s.st)

/-- TONE: ST > 0 (R258, D16); no answer where no machine exists (R130, U12). -/
def tone (s : State) : Option Bool := if s.live then some (decide (s.st.toNat > 0)) else none

/-- GETDT (R259). -/
def getDT (s : State) : Option Byte := if s.live then some s.dt else none

/-- GETST (R259). -/
def getST (s : State) : Option Byte := if s.live then some s.st else none

end Sys2Proof.Machine
end

