-- ==== Sys2Proof/Machine/Init.lean ====
section
/-! DEFINITION. INIT, the one reset event (spec/70_reset_and_hazards.md R310 to R312; spec/20_memory.md R62). -/

namespace Sys2Proof.Machine

/-- The ROM image fits: at most 3584 bytes (R62). -/
def romFits (rom : List Byte) : Bool := decide (rom.length ≤ Config.maxRom)

/-- The pairs a ROM image adds to reset memory, from address a upwards: a byte equal to what its address reads as
anyway adds none (the canonical form of `Memory`). -/
def romCells : Nat → List Byte → Memory
  | _, [] => []
  | a, b :: bs => if b = Memory.unlisted a then romCells (a + 1) bs else (a, b) :: romCells (a + 1) bs

/-- The event INIT(rom). A ROM that fits: memory is zeroed, the font and the ROM copied, everything else reset (R310,
R41). A longer ROM: InitError and no machine, so that every later event is refused until a successful INIT (R311, D19).
The events to come and the draws already made are not part of the machine and go on (notes/assumptions/8.md). -/
def initEvent (rom : List Byte) (s : State) : State :=
  if romFits rom then
    ((State.reset.setMem (romCells Config.progBase rom)).setDraws s.draws).setSchedule s.schedule
  else (raise .initError s).setLive false

end Sys2Proof.Machine
end

