-- ==== Sys2Proof/Machine/Cycle.lean ====
section
/-! DEFINITION. The STEP event (spec/40_step_cycle.md R122) and the choice of the next event (R120, R129). -/

namespace Sys2Proof.Machine

/-- Advance, decode and execute, once two bytes have been fetched (R122, R125). A rejected word is InvalidOpcode at the
advanced PC (R271). -/
def executeFetched (bytes : List Byte) (s : State) : Result :=
  match decodeBytes bytes with
  | .instr i => exec i (advance s)
  | .invalidOpcode _ => .next (raise .invalidOpcode (advance s))
  | .truncated => .next (raise .invalidOpcode (advance s))

/-- A STEP in RUNNING: the fetch bound, the fetch, then the rest (R122, R282). A failed fetch changes nothing, not even
PC (R126). -/
def runStep (s : State) : Result :=
  match fetch s with
  | .done bytes => executeFetched bytes s
  | .raised e => .next (raise e s)
  | .broken f => .fault f

/-- The event STEP (R122): awaiting a key, or fetch, advance, decode, execute. -/
def stepEvent (s : State) : Result :=
  match s.mode with
  | .awaitingKey x => .next (awaitStep x s)
  | .running => runStep s

/-- An event on a machine. Where no machine exists every event but INIT is refused (R130, R311, D19). -/
def perform (e : Event) (s : State) : Result :=
  match e with
  | .init rom => .next (initEvent rom s)
  | .step => if s.live then stepEvent s else .refused .noMachine
  | .tick => if s.live then .next (tickEvent s) else .refused .noMachine
  | .setKey id pressed => if s.live then .next (setKeyEvent id pressed s) else .refused .noMachine

/-- The next event: the oldest one scheduled, or a STEP when none is (R129, D24; notes/assumptions/2.md). -/
def nextEvent (s : State) : Event × State :=
  match s.schedule with
  | [] => (.step, s)
  | e :: rest => (e, s.setSchedule rest)

/-- One step of the model: the next event, whole (R71, R120). -/
def performNext (s : State) : Result :=
  perform (nextEvent s).1 (nextEvent s).2

end Sys2Proof.Machine
end

