-- ==== Sys2Proof/Machine/Step.lean ====
section
/-! DEFINITION. One step of the machine (Machine/Cycle.lean), and the placement of a word where it is fetched next. -/

namespace Sys2Proof.Machine

/-- One event (spec/40_step_cycle.md R120): the oldest scheduled, or a STEP. -/
def step (s : State) : Host.Outcome State Fault Refusal := performNext s

/-- s with a table word stored where the very next step fetches it (notes/assumptions/16.md). -/
def State.withFetchWord (s : State) (nbits w : Nat) : State := placeWord s (tableWordBytes nbits w)

end Sys2Proof.Machine
end

