-- ==== Sys2Proof/Safety.lean ====
section
/-! DEFINITION. The terms the claims use: what an event left unchanged, what it returned, the invariant of reachable
states, and an error-free run (spec/60_exceptions.md R275, R276). -/

namespace Sys2Proof.Machine

/-- The pieces of state other than V, the status output and the sticky mark (spec/10_state.md R20 and the model's own
fields). -/
inductive Component where
  | i | pc | sp | stack | dt | st | mem | fb | key | mode | kprev | draws | live | schedule
  deriving DecidableEq, Repr

/-- A piece of state is the same before and after; memory byte by byte, the framebuffer pixel by pixel, the stack slot by
slot. -/
def Unchanged (c : Component) (s t : State) : Prop :=
  match c with
  | .i => t.i = s.i
  | .pc => t.pc = s.pc
  | .sp => t.sp = s.sp
  | .stack => ∀ k, t.slot k = s.slot k
  | .dt => t.dt = s.dt
  | .st => t.st = s.st
  | .mem => ∀ a, t.readByte a = s.readByte a
  | .fb => ∀ x y, t.pixel x y = s.pixel x y
  | .key => ∀ k, t.keyDown k = s.keyDown k
  | .mode => t.mode = s.mode
  | .kprev => ∀ k, t.keyWasDown k = s.keyWasDown k
  | .draws => t.draws = s.draws
  | .live => t.live = s.live
  | .schedule => t.schedule = s.schedule

/-- The frame: every register outside `regs` and every piece of state outside `parts` is unchanged. -/
def FrameExcept (regs : List Nibble) (parts : List Component) (s t : State) : Prop :=
  (∀ x, x ∉ regs → t.readV x = s.readV x) ∧ ∀ c, c ∉ parts → Unchanged c s t

/-- The event returned status e: the output holds it, and the sticky mark is raised by anything but Ok (R276). -/
def Returned (e : Status) (s t : State) : Prop :=
  t.status = e ∧ t.faultMark = (s.faultMark || decide (e ≠ .ok))

/-- No event since the latest successful INIT returned an error: the premise R276 advises for a claim about a program. -/
def ErrorFree (s : State) : Prop := s.faultMark = false

/-- A STEP is the next event: none is scheduled, or the oldest one scheduled is a STEP; `due` is the machine with that
entry taken off. -/
def StepDue (s due : State) : Prop :=
  (s.schedule = [] ∧ due = s) ∨ ∃ rest, s.schedule = .step :: rest ∧ due = s.setSchedule rest

/-- k events in a row, stopping at the first fault or refusal. -/
def runEvents : Nat → State → Result
  | 0, s => .next s
  | k + 1, s =>
    match step s with
    | .next t => runEvents k t
    | .fault f => .fault f
    | .refused r => .refused r

/-- The registers V0..VX that FX65 names by X (R196). -/
def registersNamed (x : Nibble) : List Nibble := (List.range (x.toNat + 1)).map (BitVec.ofNat 4)

/-- What an instruction may write, from the column "written by" of R20 and the flag table of R22: its destination
registers and its other pieces of state. PC is listed only where the execute stage itself writes it (R25); `draws` is
the model's own. -/
def mayWrite : Instr → List Nibble × List Component
  | .cls => ([], [.fb])
  | .ret => ([], [.pc, .sp])
  | .jp _ | .jpV0 _ => ([], [.pc])
  | .call _ => ([], [.pc, .sp, .stack])
  | .seVN _ _ | .sneVN _ _ | .seVV _ _ | .sneVV _ _ | .skp _ | .sknp _ => ([], [.pc])
  | .ldVN x _ | .addVN x _ | .ldVV x _ | .orVV x _ | .andVV x _ | .xorVV x _ | .ldVDT x => ([x], [])
  | .addVV x _ | .sub x _ | .shr x _ | .subn x _ | .shl x _ => ([x, vf], [])
  | .rnd x _ => ([x], [.draws])
  | .ldI _ | .addIV _ | .ldFV _ => ([], [.i])
  | .drw _ _ _ => ([vf], [.fb])
  | .ldVK _ => ([], [.mode, .kprev])
  | .ldDTV _ => ([], [.dt])
  | .ldSTV _ => ([], [.st])
  | .ldBV _ | .stRegs _ => ([], [.mem])
  | .ldRegs x => (registersNamed x, [])

/-- The statuses an instruction can return, from the table of R270 and the sentence after it. -/
def possibleStatuses : Instr → List Status
  | .ret => [.ok, .stackUnderflow]
  | .call _ => [.ok, .stackOverflow]
  | .drw _ _ _ | .ldBV _ | .stRegs _ | .ldRegs _ => [.ok, .memoryOutOfRange]
  | .skp _ | .sknp _ => [.ok, .invalidKeyIndex]
  | .cls | .jp _ | .jpV0 _ | .seVN _ _ | .sneVN _ _ | .seVV _ _ | .sneVV _ _ | .ldVN _ _ | .addVN _ _ | .ldVV _ _
  | .orVV _ _ | .andVV _ _ | .xorVV _ _ | .addVV _ _ | .sub _ _ | .shr _ _ | .subn _ _ | .shl _ _ | .rnd _ _ | .ldI _
  | .addIV _ | .ldFV _ | .ldVK _ | .ldVDT _ | .ldDTV _ | .ldSTV _ => [.ok]

/-- The instructions whose execute stage may skip (R25 (c)). -/
def isSkip : Instr → Bool
  | .seVN _ _ | .sneVN _ _ | .seVV _ _ | .sneVV _ _ | .skp _ | .sknp _ => true
  | .cls | .ret | .jp _ | .call _ | .jpV0 _ | .ldVN _ _ | .addVN _ _ | .ldVV _ _ | .orVV _ _ | .andVV _ _ | .xorVV _ _
  | .addVV _ _ | .sub _ _ | .shr _ _ | .subn _ _ | .shl _ _ | .rnd _ _ | .ldI _ | .addIV _ | .ldFV _ | .ldVK _
  | .ldVDT _ | .ldDTV _ | .ldSTV _ | .drw _ _ _ | .ldBV _ | .stRegs _ | .ldRegs _ => false

/-- The instructions that write VF as a flag (R22). -/
def writesFlag : Instr → Bool
  | .addVV _ _ | .sub _ _ | .shr _ _ | .subn _ _ | .shl _ _ | .drw _ _ _ => true
  | .cls | .ret | .jp _ | .call _ | .jpV0 _ | .seVN _ _ | .sneVN _ _ | .seVV _ _ | .sneVV _ _ | .skp _ | .sknp _
  | .ldVN _ _ | .addVN _ _ | .ldVV _ _ | .orVV _ _ | .andVV _ _ | .xorVV _ _ | .rnd _ _ | .ldI _ | .addIV _ | .ldFV _
  | .ldVK _ | .ldVDT _ | .ldDTV _ | .ldSTV _ | .ldBV _ | .stRegs _ | .ldRegs _ => false

/-- The 1 bits of a sprite drawn at (x, y) land on pixel (px, py): S of R213. -/
def SpriteCovers (x y : Byte) (rows : List Byte) (px : Fin 64) (py : Fin 32) : Prop :=
  ∃ r b, b < 8 ∧ ∃ h : r < rows.length,
    (rows[r]'h).getMsbD b = true ∧ px.val = (x.toNat + b) % 64 ∧ py.val = (y.toNat + r) % 32

/-- Key k has gone down between two samples (R242). -/
def GoesDown (s : State) (k : Nibble) : Prop := s.keyDown k = true ∧ s.keyWasDown k = false

/-- The invariant of the machine. -/
structure Inv (s : State) : Prop where
  /-- the memory list has its canonical form -/
  memory : s.mem.wf = true
  /-- I is at most 0xFFF (R27) -/
  index : s.i.toNat ≤ 0xFFF
  /-- SP is in 0..16 (R28) -/
  stackPointer : s.sp.toNat ≤ 16
  /-- every return address held is at most 0x1000 (R143: CALL pushes an advanced PC) -/
  returnAddresses : ∀ k : Nibble, k.toNat < s.sp.toNat → (s.slot k).toNat ≤ 0x1000
  /-- PC is at most 0x10FE (R26) -/
  programCounter : s.pc.toNat ≤ 0x10FE
  /-- a status other than Ok has left the sticky mark (R276) -/
  mark : s.status ≠ .ok → s.faultMark = true

end Sys2Proof.Machine
end

