-- ==== Sys2Proof/Certificates/Slice0/Obligations.lean ====
section
/-! DEFINITION. The statements for the provers, from the numbered rules of spec/. In every statement about `exec` the
state s is the one in which the execute stage begins: its PC is already the instruction's address plus 2
(spec/40_step_cycle.md R125). "Log n" is notes/assumptions/n.md. `Returned e` says the status an instruction or event
returns, and with it the sticky mark, which is the model's own (log 1): no cited rule claims anything of the mark. That
the next event is read from `schedule` is the model's own too (log 2). -/

open Sys2Proof Sys2Proof.Machine

/-! ### Reset and INIT -/

/-- R41, the state after INIT with an empty ROM. DT, ST, KEY, MODE and KPREV are the spec's own decisions (D15, D10;
logs 6, 7); of the font only the source's glyphs 0 and F are stated (R34). TONE as a function of ST is decision D16 (log
13). -/
def Obligations.ResetStateIsAsTabulated : Prop :=
  (∀ x, State.reset.readV x = 0) ∧ State.reset.i = 0 ∧ State.reset.pc = 0x0200#16 ∧ State.reset.sp = 0 ∧
  State.reset.dt = 0 ∧ State.reset.st = 0 ∧ State.reset.mode = .running ∧
  (∀ k, State.reset.keyDown k = false) ∧ (∀ k, State.reset.keyWasDown k = false) ∧
  (∀ x y, getPixel State.reset x y = some false) ∧ tone State.reset = some false ∧
  (∀ a, 0x050 ≤ a → State.reset.readByte a = 0) ∧
  (List.range 5).map State.reset.readByte = [0xF0, 0x90, 0x90, 0x90, 0xF0] ∧
  (List.range 5).map (fun k => State.reset.readByte (0x04B + k)) = [0xF0, 0x80, 0xF0, 0x80, 0x80]

/-- R310, INIT with a ROM that fits (R62), from every state: memory is the font, the ROM at 0x200 and zero; everything
else is reset. DT, ST, KEY, KPREV are D15 and D10 (logs 6, 7); the output fields and the schedule are the model's
(logs 1, 2, 8). -/
def Obligations.InitLoadsRomAndResetsTheMachine : Prop :=
  ∀ (rom : List Byte) (rest : List Event) (s : State), s.schedule = .init rom :: rest → rom.length ≤ 3584 →
    ∃ t, step s = .next t ∧
      (∀ k (h : k < rom.length), t.readByte (0x200 + k) = rom[k]'h) ∧
      (∀ a, a < 0x050 → t.readByte a = Config.font.getD a 0) ∧
      (∀ a, 0x050 ≤ a → (a < 0x200 ∨ 0x200 + rom.length ≤ a) → t.readByte a = 0) ∧
      (∀ x, t.readV x = 0) ∧ t.i = 0 ∧ t.pc = 0x0200#16 ∧ t.sp = 0 ∧ t.dt = 0 ∧ t.st = 0 ∧ t.mode = .running ∧
      (∀ x y, t.pixel x y = false) ∧ (∀ k, t.keyDown k = false) ∧ (∀ k, t.keyWasDown k = false) ∧
      t.live = true ∧ t.status = .ok ∧ t.faultMark = false ∧ t.schedule = rest

/-- R311, R130: INIT with a ROM of more than 3584 bytes returns InitError and leaves no machine, and on no machine every
event but INIT is refused. The treatment of the old machine is the spec's decision D19 (log 8). -/
def Obligations.FailedInitLeavesNoMachineToStep : Prop :=
  (∀ (rom : List Byte) (rest : List Event) (s : State), s.schedule = .init rom :: rest → 3584 < rom.length →
    ∃ t, step s = .next t ∧ t.status = .initError ∧ t.live = false ∧ t.schedule = rest) ∧
  (∀ s : State, s.live = false → (∀ rom rest, s.schedule ≠ .init rom :: rest) → step s = .refused .noMachine)

/-- The invariant holds after reset. That I is masked when written and PC is not are decisions D3 and D7 (log 11). -/
def Obligations.ResetMeetsTheInvariant : Prop := Inv State.reset

/-! ### The STEP cycle -/

/-- R124, R125: when a STEP is due on a running machine and the two bytes at PC and PC + 1, high byte first, decode to
an instruction, the step is that instruction's execute stage on the state whose PC is advanced by 2. PC may be odd. That
an odd PC fetches like an even one is the spec's own decision D6 (log 11). -/
def Obligations.StepRunsTheDecodedInstruction : Prop :=
  ∀ (s due : State) (i : Instr), StepDue s due → s.live = true → s.mode = .running → s.pc.toNat ≤ 0xFFE →
    decode (s.readByte s.pc.toNat ++ s.readByte (s.pc.toNat + 1)) = .instr i →
    step s = exec i (due.setPc (s.pc + 2#16))

/-- R271: an unmatched word signals InvalidOpcode; only PC changes, by 2. That an odd PC fetches like an even one is
decision D6 (log 11); that every literal digit of a pattern must match is decision D8 (log 12). -/
def Obligations.InvalidWordOnlyAdvancesPc : Prop :=
  ∀ (s due : State) (w : Word), StepDue s due → s.live = true → s.mode = .running → s.pc.toNat ≤ 0xFFE →
    w = s.readByte s.pc.toNat ++ s.readByte (s.pc.toNat + 1) → decode w = .invalidOpcode w →
    ∃ t, step s = .next t ∧ t.pc = s.pc + 2#16 ∧ Returned .invalidOpcode due t ∧ FrameExcept [] [.pc] due t

/-- R126, R274 (a): a fetch at PC >= 0xFFF returns MemoryOutOfRange and changes nothing; with no other event every later
STEP does the same. That PC is not wrapped is the spec's decision D7 (log 11). -/
def Obligations.FetchPastTheTopIsStuck : Prop :=
  ∀ s due : State, StepDue s due → s.live = true → s.mode = .running → 0xFFF ≤ s.pc.toNat →
    ∃ t, step s = .next t ∧ Returned .memoryOutOfRange due t ∧ FrameExcept [] [] due t ∧
      (s.schedule = [] → step t = .next t)

/-- R240: a STEP in AWAITING_KEY with no transition copies KEY to KPREV and changes nothing else. The snapshot is the
spec's decision D10, the status D26 (log 7). -/
def Obligations.AwaitingStepWithoutTransitionOnlySamples : Prop :=
  ∀ (s due : State) (x : Nibble), StepDue s due → s.live = true → s.mode = .awaitingKey x →
    (∀ k, ¬ GoesDown s k) →
    ∃ t, step s = .next t ∧ (∀ k, t.keyWasDown k = s.keyDown k) ∧ Returned .ok due t ∧ FrameExcept [] [.kprev] due t

/-- R241: a STEP in AWAITING_KEY(x) in which keys have gone down writes the lowest such key's id to V[x], returns to
RUNNING and fetches nothing. That a key goes down against the snapshot is the spec's decision D10, the lowest key D11,
the missing fetch D9, the status D26 (log 7). -/
def Obligations.AwaitingStepResumesWithLowestKey : Prop :=
  ∀ (s due : State) (x k : Nibble), StepDue s due → s.live = true → s.mode = .awaitingKey x →
    GoesDown s k → (∀ j : Nibble, j.toNat < k.toNat → ¬ GoesDown s j) →
    ∃ t, step s = .next t ∧ (t.readV x).toNat = k.toNat ∧ t.mode = .running ∧ Returned .ok due t ∧
      FrameExcept [x] [.mode] due t

/-- R239, R242, R243: the wait is left only by a STEP that sees a key go down, or by INIT. That a key goes down against
the snapshot KPREV is the spec's decision D10 (log 7). -/
def Obligations.WaitEndsOnlyByKeyOrInit : Prop :=
  ∀ (s t : State) (x : Nibble), s.mode = .awaitingKey x → step s = .next t → t.mode ≠ .awaitingKey x →
    (∃ rom rest, s.schedule = .init rom :: rest) ∨
    ((s.schedule = [] ∨ ∃ rest, s.schedule = .step :: rest) ∧ ∃ k, GoesDown s k)

/-! ### TICK and SETKEY -/

/-- R256: TICK counts each timer down by 1, stopping at 0, in every mode, and changes nothing else; it returns no status. -/
def Obligations.TickCountsBothTimersDown : Prop :=
  ∀ (s : State) (rest : List Event), s.schedule = .tick :: rest → s.live = true →
    ∃ t, step s = .next t ∧
      t.dt.toNat = (if s.dt.toNat > 0 then s.dt.toNat - 1 else 0) ∧
      t.st.toNat = (if s.st.toNat > 0 then s.st.toNat - 1 else 0) ∧
      t.status = s.status ∧ t.faultMark = s.faultMark ∧ t.schedule = rest ∧
      FrameExcept [] [.dt, .st, .schedule] s t

/-- R231: SETKEY with an id of at most 15 writes that one flag; with a greater id it returns InvalidKeyIndex and changes
no flag. The width of id is the spec's decision D18 (log 13). -/
def Obligations.SetKeyWritesOneFlagOrFails : Prop :=
  ∀ (s : State) (id : Byte) (pressed : Bool) (rest : List Event), s.schedule = .setKey id pressed :: rest →
    s.live = true →
    (id.toNat ≤ 15 → ∃ t, step s = .next t ∧
      (∀ k : Nibble, t.keyDown k = if k.toNat = id.toNat then pressed else s.keyDown k) ∧
      t.schedule = rest ∧ Returned .ok s t ∧ FrameExcept [] [.key, .schedule] s t) ∧
    (15 < id.toNat → ∃ t, step s = .next t ∧ t.schedule = rest ∧ Returned .invalidKeyIndex s t ∧
      FrameExcept [] [.schedule] s t)

/-- R258: the tone is on exactly while ST > 0, so with ST = n and only TICKs it is on after k TICKs exactly when k < n;
DT meanwhile counts down on its own. That TONE is a function of ST is the spec's decision D16 (log 13). -/
def Obligations.ToneLastsExactlyStTicks : Prop :=
  ∀ (k : Nat) (rest : List Event) (s : State), s.live = true → s.schedule = List.replicate k .tick ++ rest →
    ∃ t, runEvents k s = .next t ∧ tone t = some (decide (k < s.st.toNat)) ∧
      t.dt.toNat = s.dt.toNat - k ∧ t.schedule = rest ∧ FrameExcept [] [.dt, .st, .schedule] s t

/-! ### Rules of the whole machine -/

/-- R270: an instruction returns only the statuses the error table gives it. That a block past 0xFFF is an error is
decision D3 (log 11); that a key id above 15 is one is decision D12 (log 13). -/
def Obligations.OnlyListedInstructionsRaise : Prop :=
  ∀ (i : Instr) (s t : State), exec i s = .next t → t.status ∈ possibleStatuses i

/-- R275: an instruction that returns an error has changed nothing; the PC the fetch stage wrote stands. That a failing
LD_B_V, ST_REGS, LD_REGS or DRW changed nothing is the spec's own decision D4 (log 11); that SKP and SKNP with Vx above
15 return an error and do not skip is decision D12 (log 13). -/
def Obligations.ErrorDiscardsEveryEffect : Prop :=
  ∀ (i : Instr) (s t : State), exec i s = .next t → t.status ≠ .ok →
    Returned t.status s t ∧ FrameExcept [] [] s t

/-- R20, the column "written by", for all 34 instructions: an instruction changes only its destination registers and the
pieces of state the table lists it for. No instruction writes KEY, the machine's existence or the events to come. That
FX0A writes a snapshot KPREV is decision D10 (log 7); that a popped slot keeps its value is decision D22 (log 14); the
draw counter is the model's own (log 3). -/
def Obligations.OnlyListedWritersChangeState : Prop :=
  ∀ (i : Instr) (s t : State), exec i s = .next t → FrameExcept (mayWrite i).1 (mayWrite i).2 s t

/-- R25: how PC changes. After the fetch stage only 00EE, 1NNN, 2NNN and BNNN overwrite it, the six skips add 2 or
nothing, and an error leaves it; TICK, SETKEY and a STEP in AWAITING_KEY do not write it. That a resuming STEP in
AWAITING_KEY executes nothing, so leaves PC, is the spec's own decision D9 (log 7); that a failing block instruction
changes nothing is decision D4 (log 11); that a keypad skip with Vx above 15 fails and does not skip is decision D12
(log 13). -/
def Obligations.PcChangesOnlyAsListed : Prop :=
  (∀ (i : Instr) (s t : State), exec i s = .next t → Component.pc ∉ (mayWrite i).2 → t.pc = s.pc) ∧
  (∀ (i : Instr) (s t : State), exec i s = .next t → isSkip i = true → t.pc = s.pc ∨ t.pc = s.pc + 2#16) ∧
  (∀ (i : Instr) (s t : State), exec i s = .next t → t.status ≠ .ok → t.pc = s.pc) ∧
  (∀ (s t : State) (rest : List Event), s.schedule = .tick :: rest → step s = .next t → t.pc = s.pc) ∧
  (∀ (s t : State) (id : Byte) (p : Bool) (rest : List Event), s.schedule = .setKey id p :: rest →
    step s = .next t → t.pc = s.pc) ∧
  (∀ (s t due : State) (x : Nibble), StepDue s due → s.mode = .awaitingKey x → step s = .next t → t.pc = s.pc)

/-- R22, R23: VF is written as a flag by six instructions only, and then holds 0 or 1; any other instruction leaves VF
unless it names VF as a destination. The value each flag takes is stated with its instruction; that the flag is written
last is the spec's decision D5 (log 10). -/
def Obligations.OnlySixInstructionsWriteVfAsFlag : Prop :=
  (∀ (i : Instr) (s t : State), exec i s = .next t → writesFlag i = false → vf ∉ (mayWrite i).1 →
    t.readV vf = s.readV vf) ∧
  (∀ (i : Instr) (s t : State), exec i s = .next t → writesFlag i = true → t.status = .ok →
    t.readV vf = 0 ∨ t.readV vf = 1)

/-- The sticky mark of R276 is the model's own (log 1): once raised, no event but a successful INIT clears it. -/
def Obligations.StickyMarkOutlivesEveryEventButInit : Prop :=
  ∀ s t : State, step s = .next t → s.faultMark = true →
    (∀ rom rest, s.schedule = .init rom :: rest → 3584 < rom.length) → t.faultMark = true

/-- The invariant is kept by every step from every state that has it: memory keeps its canonical form, I stays at most
0xFFF (R27), SP in 0..16 (R28), every held return address at most 0x1000, PC at most 0x10FE (R26), and an error status
has left the mark (R276, log 1). That I is masked when written and PC is not are decisions D3 and D7 (log 11). -/
def Obligations.EveryStepKeepsTheInvariant : Prop :=
  ∀ s t : State, Inv s → step s = .next t → Inv t

/-- R127: `Step` always returns a status. On a machine that exists and meets the invariant every event completes, and a
STEP returns one of its six statuses. The status of a STEP that awaits is the spec's decision D26 (log 7). That an odd
PC fetches and a fetch past the top returns an error are decisions D6 and D7 (log 11). -/
def Obligations.LiveMachineAlwaysCompletesItsEvent : Prop :=
  ∀ s : State, Inv s → s.live = true →
    ∃ t, step s = .next t ∧
      ((s.schedule = [] ∨ ∃ rest, s.schedule = .step :: rest) →
        t.status ∈ [Status.ok, .invalidOpcode, .stackOverflow, .stackUnderflow, .memoryOutOfRange, .invalidKeyIndex])

/-- R74: a store is seen by the very next fetch. FX55 over the bytes the next STEP fetches, at I + k and I + k + 1,
makes that STEP execute the instruction the stored registers spell. The addresses I + k are not wrapped and PC may be
odd: decisions D3 and D6 (log 11). -/
def Obligations.StoredWordIsTheNextInstruction : Prop :=
  ∀ (s : State) (x : Nibble) (k : Nat) (j : Instr), s.mem.wf = true → s.live = true → s.mode = .running →
    s.schedule = [] → k + 1 ≤ x.toNat → s.i.toNat + x.toNat ≤ 0xFFF → s.pc.toNat = s.i.toNat + k →
    decode (s.readV (BitVec.ofNat 4 k) ++ s.readV (BitVec.ofNat 4 (k + 1))) = .instr j →
    ∃ t, exec (.stRegs x) s = .next t ∧ t.pc = s.pc ∧ step t = exec j (t.setPc (t.pc + 2#16))

/-! ### Encoding -/

/-- Decoding an encoded instruction gives it back, as a word and as the two bytes in memory, for every instruction and
every operand value (every term of `Instr` is well formed: Laws.RowOfTable). -/
def Obligations.DecodeOfEncodeIsTheInstruction : Prop :=
  ∀ i : Instr, decode (encode i) = .instr i ∧ decodeBytes (encodeBytes i) = .instr i

/-- Each word has at most one meaning: the instruction a word decodes to encodes to that word (R97, R99). That every
literal digit of a pattern must match is decision D8 (log 12). -/
def Obligations.EncodeOfDecodeIsTheWord : Prop :=
  ∀ (w : Word) (i : Instr), decode w = .instr i → encode i = w

/-- R97 with the table of R96: a word that selects a row decodes to an instruction of that row's mnemonic, whose operand
fields are the word's; a word that selects no row decodes to none; the table has 34 rows and no word selects two. That
5XY1..5XYF, 9XY1..9XYF and every 0NNN but 00E0 and 00EE select no row is the spec's decision D8 (log 12). -/
def Obligations.DecodeFollowsTheOpcodeTable : Prop :=
  opcodeTable.length = 34 ∧
  (∀ (w : Word) (row : OpcodeRow), row ∈ opcodeTable → row.selects w = true →
    ∃ i, decode w = .instr i ∧ i.mnemonic = row.mnemonic ∧ encode i = w) ∧
  (∀ w : Word, (∀ row ∈ opcodeTable, row.selects w = false) → decode w = .invalidOpcode w) ∧
  (∀ (w : Word) (row row' : OpcodeRow), row ∈ opcodeTable → row' ∈ opcodeTable → row.selects w = true →
    row'.selects w = true → row = row')

/-- R98: the invalid words, family by family (the counts of the table are not stated). The strict reading of literal
nibbles is the spec's decision D8 (log 12). -/
def Obligations.InvalidWordsAreExactlyTheListed : Prop :=
  ∀ w : Word, decode w = .invalidOpcode w ↔
    (fieldOP w = 0x0#4 ∧ w ≠ 0x00E0#16 ∧ w ≠ 0x00EE#16) ∨
    (fieldOP w = 0x5#4 ∧ fieldN w ≠ 0x0#4) ∨
    (fieldOP w = 0x8#4 ∧ fieldN w ∈ [0x8#4, 0x9#4, 0xA#4, 0xB#4, 0xC#4, 0xD#4, 0xF#4]) ∨
    (fieldOP w = 0x9#4 ∧ fieldN w ≠ 0x0#4) ∨
    (fieldOP w = 0xE#4 ∧ fieldNN w ∉ [0x9E#8, 0xA1#8]) ∨
    (fieldOP w = 0xF#4 ∧ fieldNN w ∉ [0x07#8, 0x0A#8, 0x15#8, 0x18#8, 0x1E#8, 0x29#8, 0x33#8, 0x55#8, 0x65#8])

/-- Ten sample words written out from R96 decode to what they stand for. -/
def Obligations.SampleWordsDecodeAsWritten : Prop :=
  decode 0x00E0#16 = .instr .cls ∧ decode 0x1234#16 = .instr (.jp 0x234#12) ∧
  decode 0x332A#16 = .instr (.seVN 0x3#4 0x2A#8) ∧ decode 0x8124#16 = .instr (.addVV 0x1#4 0x2#4) ∧
  decode 0xB300#16 = .instr (.jpV0 0x300#12) ∧ decode 0xC30F#16 = .instr (.rnd 0x3#4 0x0F#8) ∧
  decode 0xD125#16 = .instr (.drw 0x1#4 0x2#4 0x5#4) ∧ decode 0xE29E#16 = .instr (.skp 0x2#4) ∧
  decode 0xF30A#16 = .instr (.ldVK 0x3#4) ∧ decode 0xF565#16 = .instr (.ldRegs 0x5#4)

/-! ### Control transfer and skips -/

/-- R142: JP. -/
def Obligations.JpLoadsPcWithItsImmediate : Prop :=
  (∀ w : Word, w &&& 0xF000#16 = 0x1000#16 → decode w = .instr (.jp (w.extractLsb' 0 12))) ∧
  ∀ (nnn : Imm12) (s : State), ∃ t, exec (.jp nnn) s = .next t ∧ t.pc.toNat = nnn.toNat ∧ Returned .ok s t ∧
    FrameExcept [] [.pc] s t

/-- R143: CALL below the stack limit pushes the advanced PC and jumps; at SP = 16 it returns StackOverflow with SP, PC
and STACK as they were. -/
def Obligations.CallPushesPcAndJumpsOrOverflows : Prop :=
  (∀ w : Word, w &&& 0xF000#16 = 0x2000#16 → decode w = .instr (.call (w.extractLsb' 0 12))) ∧
  (∀ (nnn : Imm12) (s : State), s.sp.toNat < 16 → ∃ t, exec (.call nnn) s = .next t ∧ t.pc.toNat = nnn.toNat ∧
    t.sp.toNat = s.sp.toNat + 1 ∧
    (∀ k : Nibble, t.slot k = if k.toNat = s.sp.toNat then s.pc else s.slot k) ∧
    Returned .ok s t ∧ FrameExcept [] [.pc, .sp, .stack] s t) ∧
  (∀ (nnn : Imm12) (s : State), s.sp.toNat = 16 → ∃ t, exec (.call nnn) s = .next t ∧ t.pc = s.pc ∧ t.sp = s.sp ∧
    Returned .stackOverflow s t ∧ FrameExcept [] [] s t)

/-- R141: RET pops the newest return address into PC; at SP = 0 it returns StackUnderflow with SP and PC as they were.
That the popped slot keeps its value is decision D22 (log 14). -/
def Obligations.RetPopsPcOrUnderflows : Prop :=
  (∀ w : Word, w = 0x00EE#16 → decode w = .instr .ret) ∧
  (∀ s : State, 0 < s.sp.toNat → s.sp.toNat ≤ 16 → ∃ t, exec .ret s = .next t ∧
    t.sp.toNat = s.sp.toNat - 1 ∧ (∀ k : Nibble, k.toNat = s.sp.toNat - 1 → t.pc = s.slot k) ∧
    Returned .ok s t ∧ FrameExcept [] [.pc, .sp] s t) ∧
  (∀ s : State, s.sp.toNat = 0 → ∃ t, exec .ret s = .next t ∧ t.pc = s.pc ∧ t.sp = s.sp ∧
    Returned .stackUnderflow s t ∧ FrameExcept [] [] s t)

/-- R141, second quotation: a RET that follows a CALL, with the stack and SP as the CALL left them, returns to the
address after the CALL and restores SP. That the popped slot keeps its value is decision D22 (log 14). -/
def Obligations.RetAfterCallReturnsBehindIt : Prop :=
  ∀ (nnn : Imm12) (s t u : State), s.sp.toNat < 16 → exec (.call nnn) s = .next t →
    u.sp = t.sp → (∀ k, u.slot k = t.slot k) →
    ∃ r, exec .ret u = .next r ∧ r.pc = s.pc ∧ r.sp = s.sp ∧ Returned .ok u r ∧ FrameExcept [] [.pc, .sp] u r

/-- R144, R145: SE_VN and SNE_VN. -/
def Obligations.SkipsOnImmediateCompareAllEightBits : Prop :=
  (∀ w : Word, w &&& 0xF000#16 = 0x3000#16 → decode w = .instr (.seVN (w.extractLsb' 8 4) (w.extractLsb' 0 8))) ∧
  (∀ w : Word, w &&& 0xF000#16 = 0x4000#16 → decode w = .instr (.sneVN (w.extractLsb' 8 4) (w.extractLsb' 0 8))) ∧
  (∀ (x : Nibble) (nn : Byte) (s : State), ∃ t, exec (.seVN x nn) s = .next t ∧
    (s.readV x = nn → t.pc = s.pc + 2#16) ∧ (s.readV x ≠ nn → t.pc = s.pc) ∧
    Returned .ok s t ∧ FrameExcept [] [.pc] s t) ∧
  (∀ (x : Nibble) (nn : Byte) (s : State), ∃ t, exec (.sneVN x nn) s = .next t ∧
    (s.readV x ≠ nn → t.pc = s.pc + 2#16) ∧ (s.readV x = nn → t.pc = s.pc) ∧
    Returned .ok s t ∧ FrameExcept [] [.pc] s t)

/-- R146, R147: SE_VV and SNE_VV; with X = Y the first always skips and the second never does. -/
def Obligations.SkipsOnRegistersCompareThem : Prop :=
  (∀ w : Word, w &&& 0xF00F#16 = 0x5000#16 → decode w = .instr (.seVV (w.extractLsb' 8 4) (w.extractLsb' 4 4))) ∧
  (∀ w : Word, w &&& 0xF00F#16 = 0x9000#16 → decode w = .instr (.sneVV (w.extractLsb' 8 4) (w.extractLsb' 4 4))) ∧
  (∀ (x y : Nibble) (s : State), ∃ t, exec (.seVV x y) s = .next t ∧
    (s.readV x = s.readV y → t.pc = s.pc + 2#16) ∧ (s.readV x ≠ s.readV y → t.pc = s.pc) ∧
    Returned .ok s t ∧ FrameExcept [] [.pc] s t) ∧
  (∀ (x y : Nibble) (s : State), ∃ t, exec (.sneVV x y) s = .next t ∧
    (s.readV x ≠ s.readV y → t.pc = s.pc + 2#16) ∧ (s.readV x = s.readV y → t.pc = s.pc) ∧
    Returned .ok s t ∧ FrameExcept [] [.pc] s t)

/-- R148: JP_V0 adds V0 to NNN in 16 bits; that the sum is not reduced to 12 bits is the spec's decision D7 (log 11). -/
def Obligations.JpV0AddsV0WithoutReduction : Prop :=
  ∀ (nnn : Imm12) (s : State), ∃ t, exec (.jpV0 nnn) s = .next t ∧
    t.pc.toNat = nnn.toNat + (s.readV 0x0#4).toNat ∧ Returned .ok s t ∧ FrameExcept [] [.pc] s t

/-! ### Loads, arithmetic, logic, shifts, random -/

/-- R161, R163: LD_VN and LD_VV. -/
def Obligations.RegisterLoadsWriteOnlyTheirTarget : Prop :=
  (∀ w : Word, w &&& 0xF000#16 = 0x6000#16 → decode w = .instr (.ldVN (w.extractLsb' 8 4) (w.extractLsb' 0 8))) ∧
  (∀ w : Word, w &&& 0xF00F#16 = 0x8000#16 → decode w = .instr (.ldVV (w.extractLsb' 8 4) (w.extractLsb' 4 4))) ∧
  (∀ (x : Nibble) (nn : Byte) (s : State), ∃ t, exec (.ldVN x nn) s = .next t ∧ t.readV x = nn ∧
    Returned .ok s t ∧ FrameExcept [x] [] s t) ∧
  (∀ (x y : Nibble) (s : State), ∃ t, exec (.ldVV x y) s = .next t ∧ t.readV x = s.readV y ∧
    Returned .ok s t ∧ FrameExcept [x] [] s t)

/-- R162: ADD_VN wraps modulo 256 and writes no flag. -/
def Obligations.AddImmediateWrapsWithoutFlag : Prop :=
  (∀ w : Word, w &&& 0xF000#16 = 0x7000#16 → decode w = .instr (.addVN (w.extractLsb' 8 4) (w.extractLsb' 0 8))) ∧
  ∀ (x : Nibble) (nn : Byte) (s : State), ∃ t, exec (.addVN x nn) s = .next t ∧
    (t.readV x).toNat = ((s.readV x).toNat + nn.toNat) % 256 ∧ Returned .ok s t ∧ FrameExcept [x] [] s t

/-- R164, R165, R166: OR, AND and XOR act on each bit and leave VF. -/
def Obligations.LogicActsBitwiseWithoutFlag : Prop :=
  (∀ w : Word, w &&& 0xF00F#16 = 0x8001#16 → decode w = .instr (.orVV (w.extractLsb' 8 4) (w.extractLsb' 4 4))) ∧
  (∀ w : Word, w &&& 0xF00F#16 = 0x8002#16 → decode w = .instr (.andVV (w.extractLsb' 8 4) (w.extractLsb' 4 4))) ∧
  (∀ w : Word, w &&& 0xF00F#16 = 0x8003#16 → decode w = .instr (.xorVV (w.extractLsb' 8 4) (w.extractLsb' 4 4))) ∧
  (∀ (x y : Nibble) (s : State), ∃ t, exec (.orVV x y) s = .next t ∧
    (∀ b, (t.readV x).getLsbD b = ((s.readV x).getLsbD b || (s.readV y).getLsbD b)) ∧
    Returned .ok s t ∧ FrameExcept [x] [] s t) ∧
  (∀ (x y : Nibble) (s : State), ∃ t, exec (.andVV x y) s = .next t ∧
    (∀ b, (t.readV x).getLsbD b = ((s.readV x).getLsbD b && (s.readV y).getLsbD b)) ∧
    Returned .ok s t ∧ FrameExcept [x] [] s t) ∧
  (∀ (x y : Nibble) (s : State), ∃ t, exec (.xorVV x y) s = .next t ∧
    (∀ b, (t.readV x).getLsbD b = ((s.readV x).getLsbD b ^^ (s.readV y).getLsbD b)) ∧
    Returned .ok s t ∧ FrameExcept [x] [] s t)

/-- R172: ADD_VV leaves the sum modulo 256 in Vx (X other than F) and the carry in VF, for every X and Y. With X = F the
flag survives: the order of the two writes is the spec's decision D5 (log 10). -/
def Obligations.AddLeavesSumAndCarry : Prop :=
  ∀ (x y : Nibble) (s : State), ∃ t, exec (.addVV x y) s = .next t ∧
    (x ≠ vf → (t.readV x).toNat = ((s.readV x).toNat + (s.readV y).toNat) % 256) ∧
    (t.readV vf).toNat = (if (s.readV x).toNat + (s.readV y).toNat > 255 then 1 else 0) ∧
    Returned .ok s t ∧ FrameExcept [x, vf] [] s t

/-- R173, R175: SUB and SUBN leave the difference modulo 256 in Vx (X other than F) and not-borrow in VF. The order of
the two writes is the spec's decision D5 (log 10). -/
def Obligations.SubtractionsLeaveDifferenceAndNotBorrow : Prop :=
  (∀ (x y : Nibble) (s : State), ∃ t, exec (.sub x y) s = .next t ∧
    (x ≠ vf → (t.readV x).toNat = ((s.readV x).toNat + 256 - (s.readV y).toNat) % 256) ∧
    (t.readV vf).toNat = (if (s.readV x).toNat ≥ (s.readV y).toNat then 1 else 0) ∧
    Returned .ok s t ∧ FrameExcept [x, vf] [] s t) ∧
  (∀ (x y : Nibble) (s : State), ∃ t, exec (.subn x y) s = .next t ∧
    (x ≠ vf → (t.readV x).toNat = ((s.readV y).toNat + 256 - (s.readV x).toNat) % 256) ∧
    (t.readV vf).toNat = (if (s.readV y).toNat ≥ (s.readV x).toNat then 1 else 0) ∧
    Returned .ok s t ∧ FrameExcept [x, vf] [] s t)

/-- R174, R176, R99: SHR and SHL shift Vx by one and leave the bit shifted out in VF; the Y field has no effect. The
order of the two writes is the spec's decision D5 (log 10). -/
def Obligations.ShiftsLeaveTheBitShiftedOut : Prop :=
  (∀ (x y : Nibble) (s : State), ∃ t, exec (.shr x y) s = .next t ∧
    (x ≠ vf → (t.readV x).toNat = (s.readV x).toNat / 2) ∧ (t.readV vf).toNat = (s.readV x).toNat % 2 ∧
    Returned .ok s t ∧ FrameExcept [x, vf] [] s t) ∧
  (∀ (x y : Nibble) (s : State), ∃ t, exec (.shl x y) s = .next t ∧
    (x ≠ vf → (t.readV x).toNat = (s.readV x).toNat * 2 % 256) ∧ (t.readV vf).toNat = (s.readV x).toNat / 128 ∧
    Returned .ok s t ∧ FrameExcept [x, vf] [] s t) ∧
  (∀ (x y y' : Nibble) (s : State), exec (.shr x y) s = exec (.shr x y') s ∧ exec (.shl x y) s = exec (.shl x y') s)

/-- R181: RND writes the drawn byte masked by NN, whatever the draw is; the draw is a free value (D14, log 3). -/
def Obligations.RandomByteIsMaskedByImmediate : Prop :=
  ∀ (x : Nibble) (nn : Byte) (s : State), ∃ t, exec (.rnd x nn) s = .next t ∧
    t.readV x = Config.rnd s.draws &&& nn ∧ (∀ b, nn.getLsbD b = false → (t.readV x).getLsbD b = false) ∧
    t.draws = s.draws + 1 ∧ Returned .ok s t ∧ FrameExcept [x] [.draws] s t

/-! ### Index register and memory blocks -/

/-- R191: LD_I. -/
def Obligations.LdILoadsTheImmediate : Prop :=
  (∀ w : Word, w &&& 0xF000#16 = 0xA000#16 → decode w = .instr (.ldI (w.extractLsb' 0 12))) ∧
  ∀ (nnn : Imm12) (s : State), ∃ t, exec (.ldI nnn) s = .next t ∧ t.i.toNat = nnn.toNat ∧
    Returned .ok s t ∧ FrameExcept [] [.i] s t

/-- R192: ADD_I_V wraps at 12 bits and writes no flag. -/
def Obligations.AddToIndexWrapsAtTwelveBits : Prop :=
  (∀ w : Word, w &&& 0xF0FF#16 = 0xF01E#16 → decode w = .instr (.addIV (w.extractLsb' 8 4))) ∧
  ∀ (x : Nibble) (s : State), ∃ t, exec (.addIV x) s = .next t ∧
    t.i.toNat = (s.i.toNat + (s.readV x).toNat) % 4096 ∧ Returned .ok s t ∧ FrameExcept [] [.i] s t

/-- R193: LD_F_V leaves five times Vx in I, all 8 bits of Vx taking part (the spec's decision D13, log 11). -/
def Obligations.FontAddressIsFiveTimesVx : Prop :=
  ∀ (x : Nibble) (s : State), ∃ t, exec (.ldFV x) s = .next t ∧ t.i.toNat = 5 * (s.readV x).toNat ∧
    Returned .ok s t ∧ FrameExcept [] [.i] s t

/-- R194: LD_B_V stores hundreds, tens and ones at I, I + 1, I + 2 and no other byte, when the three bytes lie below
0x1000 (addresses are not wrapped: D3, log 11). -/
def Obligations.BcdStoresThreeDigits : Prop :=
  ∀ (x : Nibble) (s : State), s.mem.wf = true → s.i.toNat + 2 ≤ 0xFFF → ∃ t, exec (.ldBV x) s = .next t ∧
    (t.readByte s.i.toNat).toNat = (s.readV x).toNat / 100 ∧
    (t.readByte (s.i.toNat + 1)).toNat = (s.readV x).toNat / 10 % 10 ∧
    (t.readByte (s.i.toNat + 2)).toNat = (s.readV x).toNat % 10 ∧
    (∀ a, a < s.i.toNat ∨ s.i.toNat + 2 < a → t.readByte a = s.readByte a) ∧
    Returned .ok s t ∧ FrameExcept [] [.mem] s t

/-- R195: ST_REGS stores V0..VX, both inclusive, at I..I+X and no other byte, when they lie below 0x1000; I is kept
(addresses are not wrapped: D3, log 11). -/
def Obligations.StoreRegistersWritesTheBlock : Prop :=
  ∀ (x : Nibble) (s : State), s.mem.wf = true → s.i.toNat + x.toNat ≤ 0xFFF → ∃ t, exec (.stRegs x) s = .next t ∧
    (∀ k : Nibble, k.toNat ≤ x.toNat → t.readByte (s.i.toNat + k.toNat) = s.readV k) ∧
    (∀ a, a < s.i.toNat ∨ s.i.toNat + x.toNat < a → t.readByte a = s.readByte a) ∧
    Returned .ok s t ∧ FrameExcept [] [.mem] s t

/-- R196: LD_REGS loads V0..VX, both inclusive, from I..I+X, when they lie below 0x1000; registers above VX, I and MEM
are kept (addresses are not wrapped: D3, log 11). -/
def Obligations.LoadRegistersReadsTheBlock : Prop :=
  ∀ (x : Nibble) (s : State), s.i.toNat + x.toNat ≤ 0xFFF → ∃ t, exec (.ldRegs x) s = .next t ∧
    (∀ k : Nibble, k.toNat ≤ x.toNat → t.readV k = s.readByte (s.i.toNat + k.toNat)) ∧
    (∀ k : Nibble, x.toNat < k.toNat → t.readV k = s.readV k) ∧
    Returned .ok s t ∧ FrameExcept (registersNamed x) [] s t

/-- R66, R69: a block that runs past 0xFFF raises MemoryOutOfRange and changes nothing: the spec's decisions D3 and D4
(log 11). -/
def Obligations.BlockPastTheTopChangesNothing : Prop :=
  (∀ (x : Nibble) (s : State), 0xFFF < s.i.toNat + 2 → ∃ t, exec (.ldBV x) s = .next t ∧
    Returned .memoryOutOfRange s t ∧ FrameExcept [] [] s t) ∧
  (∀ (x : Nibble) (s : State), 0xFFF < s.i.toNat + x.toNat → ∃ t, exec (.stRegs x) s = .next t ∧
    Returned .memoryOutOfRange s t ∧ FrameExcept [] [] s t) ∧
  (∀ (x : Nibble) (s : State), 0xFFF < s.i.toNat + x.toNat → ∃ t, exec (.ldRegs x) s = .next t ∧
    Returned .memoryOutOfRange s t ∧ FrameExcept [] [] s t) ∧
  (∀ (x y n : Nibble) (s : State), 0 < n.toNat → 0xFFF < s.i.toNat + n.toNat - 1 →
    ∃ t, exec (.drw x y n) s = .next t ∧ Returned .memoryOutOfRange s t ∧ FrameExcept [] [] s t)

/-! ### Display -/

/-- R211: CLS clears every pixel; VF is not written. -/
def Obligations.ClsClearsEveryPixel : Prop :=
  (∀ w : Word, w = 0x00E0#16 → decode w = .instr .cls) ∧
  ∀ s : State, ∃ t, exec .cls s = .next t ∧ (∀ x y, t.pixel x y = false) ∧
    (s.live = true → ∀ x y, getPixel t x y = some false) ∧ Returned .ok s t ∧ FrameExcept [] [.fb] s t

/-- R212, R213: a sprite of at most 15 rows toggles exactly the pixels its 1 bits land on, wrapping at both edges, and
collides exactly when it lands on a pixel that was lit. -/
def Obligations.SpriteTogglesCoveredPixelsAndDetectsCollision : Prop :=
  ∀ (fb : FrameBuffer) (x y : Byte) (rows : List Byte), rows.length ≤ 15 →
    (∀ px py, SpriteCovers x y rows px py → (drawSprite fb x y rows).1.get px py = !fb.get px py) ∧
    (∀ px py, ¬ SpriteCovers x y rows px py → (drawSprite fb x y rows).1.get px py = fb.get px py) ∧
    ((drawSprite fb x y rows).2 = true ↔ ∃ px py, SpriteCovers x y rows px py ∧ fb.get px py = true)

/-- R215: drawing the same sprite twice at the same place restores the framebuffer; the second drawing collides exactly
when the first turned some pixel on (R215 and C7 drop the source's claim that both collide alike). -/
def Obligations.DrawingTwiceRestoresTheFramebuffer : Prop :=
  ∀ (fb : FrameBuffer) (x y : Byte) (rows : List Byte), rows.length ≤ 15 →
    (∀ px py, (drawSprite (drawSprite fb x y rows).1 x y rows).1.get px py = fb.get px py) ∧
    ((drawSprite (drawSprite fb x y rows).1 x y rows).2 = true ↔
      ∃ px py, SpriteCovers x y rows px py ∧ fb.get px py = false)

/-- R214: DRW with its N rows below 0x1000, or N = 0, toggles the pixels the rows cover and leaves the collision, 0 or 1,
in VF; the coordinates are the registers before VF is written (addresses are not wrapped: D3, log 11). -/
def Obligations.DrwDrawsTheRowsAndReportsCollision : Prop :=
  ∀ (x y n : Nibble) (s : State) (rows : List Byte), n.toNat = 0 ∨ s.i.toNat + n.toNat - 1 ≤ 0xFFF →
    rows = (List.range n.toNat).map (fun r => s.readByte (s.i.toNat + r)) →
    ∃ t, exec (.drw x y n) s = .next t ∧
      (∀ px py, SpriteCovers (s.readV x) (s.readV y) rows px py → t.pixel px py = !s.pixel px py) ∧
      (∀ px py, ¬ SpriteCovers (s.readV x) (s.readV y) rows px py → t.pixel px py = s.pixel px py) ∧
      ((∃ px py, SpriteCovers (s.readV x) (s.readV y) rows px py ∧ s.pixel px py = true) → t.readV vf = 1) ∧
      ((∀ px py, SpriteCovers (s.readV x) (s.readV y) rows px py → s.pixel px py = false) → t.readV vf = 0) ∧
      Returned .ok s t ∧ FrameExcept [vf] [.fb] s t

/-! ### Keypad -/

/-- R233, R234: SKP and SKNP with Vx at most 15 skip on the level of key Vx. -/
def Obligations.KeypadSkipsTestTheKeyLevel : Prop :=
  (∀ (x k : Nibble) (s : State), (s.readV x).toNat = k.toNat → ∃ t, exec (.skp x) s = .next t ∧
    (s.keyDown k = true → t.pc = s.pc + 2#16) ∧ (s.keyDown k = false → t.pc = s.pc) ∧
    Returned .ok s t ∧ FrameExcept [] [.pc] s t) ∧
  (∀ (x k : Nibble) (s : State), (s.readV x).toNat = k.toNat → ∃ t, exec (.sknp x) s = .next t ∧
    (s.keyDown k = false → t.pc = s.pc + 2#16) ∧ (s.keyDown k = true → t.pc = s.pc) ∧
    Returned .ok s t ∧ FrameExcept [] [.pc] s t)

/-- R232: SKP and SKNP with Vx above 15 raise InvalidKeyIndex and do not skip: the spec's decision D12 (log 13). -/
def Obligations.KeypadSkipsRejectKeyIdsAboveFifteen : Prop :=
  ∀ (x : Nibble) (s : State), 15 < (s.readV x).toNat →
    (∃ t, exec (.skp x) s = .next t ∧ t.pc = s.pc ∧ Returned .invalidKeyIndex s t ∧ FrameExcept [] [] s t) ∧
    (∃ t, exec (.sknp x) s = .next t ∧ t.pc = s.pc ∧ Returned .invalidKeyIndex s t ∧ FrameExcept [] [] s t)

/-- R238: LD_V_K copies KEY into KPREV and enters AWAITING_KEY(X); Vx is not written yet. The snapshot is the spec's
decision D10 (log 7). -/
def Obligations.KeyWaitSnapshotsTheKeysAndSuspends : Prop :=
  ∀ (x : Nibble) (s : State), ∃ t, exec (.ldVK x) s = .next t ∧ t.mode = .awaitingKey x ∧
    (∀ k, t.keyWasDown k = s.keyDown k) ∧ Returned .ok s t ∧ FrameExcept [] [.mode, .kprev] s t

/-! ### Timer instructions -/

/-- R251, R252, R253: LD_V_DT, LD_DT_V and LD_ST_V; after the last TONE is on exactly when Vx is not 0. -/
def Obligations.TimerInstructionsMoveOneByte : Prop :=
  (∀ w : Word, w &&& 0xF0FF#16 = 0xF007#16 → decode w = .instr (.ldVDT (w.extractLsb' 8 4))) ∧
  (∀ w : Word, w &&& 0xF0FF#16 = 0xF015#16 → decode w = .instr (.ldDTV (w.extractLsb' 8 4))) ∧
  (∀ w : Word, w &&& 0xF0FF#16 = 0xF018#16 → decode w = .instr (.ldSTV (w.extractLsb' 8 4))) ∧
  (∀ (x : Nibble) (s : State), ∃ t, exec (.ldVDT x) s = .next t ∧ t.readV x = s.dt ∧
    Returned .ok s t ∧ FrameExcept [x] [] s t) ∧
  (∀ (x : Nibble) (s : State), ∃ t, exec (.ldDTV x) s = .next t ∧ t.dt = s.readV x ∧
    Returned .ok s t ∧ FrameExcept [] [.dt] s t) ∧
  (∀ (x : Nibble) (s : State), ∃ t, exec (.ldSTV x) s = .next t ∧ t.st = s.readV x ∧
    (s.live = true → tone t = some (decide (s.readV x ≠ 0))) ∧ Returned .ok s t ∧ FrameExcept [] [.st] s t)
end

