-- ==== Sys2Proof/Laws/Decode.lean ====
section
/-! SUPPORT. Reading the fields of R91 back from the formats of R92, and what a masked match says of a field. -/

namespace Sys2Proof

@[simp] theorem fieldOP_formatA (op : Nibble) (nnn : Imm12) : fieldOP (formatA op nnn) = op := by
  ext i hi; simp only [fieldOP, formatA, BitVec.getElem_extractLsb', BitVec.getLsbD_append]
  interval_cases i <;> simp

@[simp] theorem fieldNNN_formatA (op : Nibble) (nnn : Imm12) : fieldNNN (formatA op nnn) = nnn := by
  ext i hi; simp only [fieldNNN, formatA, BitVec.getElem_extractLsb', BitVec.getLsbD_append]
  interval_cases i <;> simp

@[simp] theorem fieldOP_formatXI (op x : Nibble) (nn : Byte) : fieldOP (formatXI op x nn) = op := by
  ext i hi; simp only [fieldOP, formatXI, BitVec.getElem_extractLsb', BitVec.getLsbD_append]
  interval_cases i <;> simp

@[simp] theorem fieldX_formatXI (op x : Nibble) (nn : Byte) : fieldX (formatXI op x nn) = x := by
  ext i hi; simp only [fieldX, formatXI, BitVec.getElem_extractLsb', BitVec.getLsbD_append]
  interval_cases i <;> simp

@[simp] theorem fieldNN_formatXI (op x : Nibble) (nn : Byte) : fieldNN (formatXI op x nn) = nn := by
  ext i hi; simp only [fieldNN, formatXI, BitVec.getElem_extractLsb', BitVec.getLsbD_append]
  interval_cases i <;> simp

@[simp] theorem fieldOP_formatXYN (op x y n : Nibble) : fieldOP (formatXYN op x y n) = op := by
  ext i hi; simp only [fieldOP, formatXYN, BitVec.getElem_extractLsb', BitVec.getLsbD_append]
  interval_cases i <;> simp

@[simp] theorem fieldX_formatXYN (op x y n : Nibble) : fieldX (formatXYN op x y n) = x := by
  ext i hi; simp only [fieldX, formatXYN, BitVec.getElem_extractLsb', BitVec.getLsbD_append]
  interval_cases i <;> simp

@[simp] theorem fieldY_formatXYN (op x y n : Nibble) : fieldY (formatXYN op x y n) = y := by
  ext i hi; simp only [fieldY, formatXYN, BitVec.getElem_extractLsb', BitVec.getLsbD_append]
  interval_cases i <;> simp

@[simp] theorem fieldN_formatXYN (op x y n : Nibble) : fieldN (formatXYN op x y n) = n := by
  ext i hi; simp only [fieldN, formatXYN, BitVec.getElem_extractLsb', BitVec.getLsbD_append]
  interval_cases i <;> simp

/-- A slice of a masked word is the slice masked. -/
theorem slice_of_match {w mask pattern : Word} (h : w &&& mask = pattern) (start len : Nat) :
    w.extractLsb' start len &&& mask.extractLsb' start len = pattern.extractLsb' start len := by
  rw [← BitVec.extractLsb'_and, h]

/-- A match of a mask that covers a whole field gives that field. -/
theorem field_of_match {w mask pattern : Word} (h : w &&& mask = pattern) (start len : Nat)
    (hm : mask.extractLsb' start len = BitVec.allOnes len) : w.extractLsb' start len = pattern.extractLsb' start len := by
  rw [← slice_of_match h start len, hm, BitVec.and_allOnes]

theorem fieldOP_of_match {w mask pattern : Word} (h : w &&& mask = pattern) (hm : fieldOP mask = 0xF#4) :
    fieldOP w = fieldOP pattern := field_of_match h 12 4 hm

theorem fieldN_of_match {w mask pattern : Word} (h : w &&& mask = pattern) (hm : fieldN mask = 0xF#4) :
    fieldN w = fieldN pattern := field_of_match h 0 4 hm

theorem fieldNN_of_match {w mask pattern : Word} (h : w &&& mask = pattern) (hm : fieldNN mask = 0xFF#8) :
    fieldNN w = fieldNN pattern := field_of_match h 0 8 hm

/-- The two bytes of a word, composed as a fetch composes them, are the word (R63, R90). -/
@[simp] theorem wordOfBytes_high_low (w : Word) : wordOfBytes (highByte w) (lowByte w) = w := by
  refine BitVec.eq_of_getLsbD_eq fun i hi => ?_
  simp only [wordOfBytes, highByte, lowByte, BitVec.getLsbD_append, BitVec.getLsbD_extractLsb']
  interval_cases i <;> simp

end Sys2Proof
end

