-- ==== Sys2Proof/Laws/Memory.lean ====
section
/-! SUPPORT. Memory: reading after writing, and that every memory operation keeps the canonical form `Memory.wf`. -/

namespace Sys2Proof.Machine

theorem Memory.read_of_below {m : Memory} {low a : Nat} (h : m.wfFrom low = true) (ha : a < low) :
    m.read a = Memory.unlisted a := by
  induction m generalizing low with
  | nil => rfl
  | cons cell rest ih =>
    obtain ⟨b, x⟩ := cell
    simp only [Memory.wfFrom, Bool.and_eq_true, decide_eq_true_eq] at h
    rw [Memory.read, if_neg (by omega)]
    exact ih h.2 (by omega)

theorem Memory.wfFrom_mono {m : Memory} {low low' : Nat} (h : m.wfFrom low = true) (hl : low' ≤ low) :
    m.wfFrom low' = true := by
  cases m with
  | nil => rfl
  | cons cell rest =>
    obtain ⟨b, x⟩ := cell
    simp only [Memory.wfFrom, Bool.and_eq_true, decide_eq_true_eq] at h ⊢
    exact ⟨⟨⟨by omega, h.1.1.2⟩, h.1.2⟩, h.2⟩

theorem Memory.read_place_other (m : Memory) {a a' : Nat} (x : Byte) (h : a' ≠ a) :
    (m.place a x).read a' = m.read a' := by
  induction m with
  | nil => simp only [Memory.place]; split <;> simp [Memory.read, h]
  | cons cell rest ih =>
    obtain ⟨b, y⟩ := cell
    simp only [Memory.place]
    split_ifs <;> simp_all [Memory.read]

theorem Memory.read_place_same {m : Memory} {low a : Nat} (x : Byte) (h : m.wfFrom low = true) :
    (m.place a x).read a = x := by
  induction m generalizing low with
  | nil =>
    simp only [Memory.place]
    split_ifs with hx <;> simp [Memory.read, hx]
  | cons cell rest ih =>
    obtain ⟨b, y⟩ := cell
    have hw := h
    simp only [Memory.wfFrom, Bool.and_eq_true, decide_eq_true_eq] at h
    simp only [Memory.place]
    split_ifs with h1 h2 h3 h4
    · rw [Memory.read, if_neg (by omega), Memory.read_of_below h.2 (by omega), h2]
    · simp [Memory.read]
    · rw [Memory.read_of_below h.2 (by omega), h4]
    · simp [Memory.read]
    · rw [Memory.read, if_neg h3]; exact ih h.2

theorem Memory.wfFrom_place {m : Memory} {low a : Nat} (x : Byte) (h : m.wfFrom low = true) (hl : low ≤ a)
    (ha : a < Config.memSize) : (m.place a x).wfFrom low = true := by
  induction m generalizing low with
  | nil => simp only [Memory.place]; split_ifs <;> simp_all [Memory.wfFrom]
  | cons cell rest ih =>
    obtain ⟨b, y⟩ := cell
    have hw := h
    simp only [Memory.wfFrom, Bool.and_eq_true, decide_eq_true_eq] at h
    obtain ⟨⟨⟨hb1, hb2⟩, hb3⟩, hb4⟩ := h
    simp only [Memory.place]
    split_ifs with h1 h2 h3 h4
    · exact hw
    · simp only [Memory.wfFrom, Bool.and_eq_true, decide_eq_true_eq]
      exact ⟨⟨⟨hl, ha⟩, h2⟩, ⟨⟨by omega, hb2⟩, hb3⟩, hb4⟩
    · exact Memory.wfFrom_mono hb4 (by omega)
    · simp only [Memory.wfFrom, Bool.and_eq_true, decide_eq_true_eq]
      exact ⟨⟨⟨hl, ha⟩, h4⟩, h3 ▸ hb4⟩
    · simp only [Memory.wfFrom, Bool.and_eq_true, decide_eq_true_eq]
      exact ⟨⟨⟨hb1, hb2⟩, hb3⟩, ih hb4 (by omega)⟩

/-- A write leaves every other byte alone (R70). -/
theorem Memory.read_write_other (m : Memory) {a a' : Nat} (x : Byte) (h : a' ≠ a) :
    (m.write a x).read a' = m.read a' := by
  unfold Memory.write
  split
  · exact Memory.read_place_other m x h
  · rfl

/-- A read after a write gives the byte written (R72 (a)). -/
theorem Memory.read_write_same {m : Memory} {a : Nat} (x : Byte) (h : m.wf = true) (ha : a < Config.memSize) :
    (m.write a x).read a = x := by
  rw [Memory.write, if_pos ha]; exact Memory.read_place_same x h

theorem Memory.wf_write {m : Memory} (a : Nat) (x : Byte) (h : m.wf = true) : (m.write a x).wf = true := by
  unfold Memory.write
  split
  · exact Memory.wfFrom_place x h (Nat.zero_le _) ‹_›
  · exact h

theorem Memory.wf_writeAll {m : Memory} (a : Nat) (xs : List Byte) (h : m.wf = true) :
    (m.writeAll a xs).wf = true := by
  induction xs generalizing m a with
  | nil => exact h
  | cons x xs ih => exact ih (a + 1) (Memory.wf_write a x h)

theorem Memory.read_writeAll_outside (m : Memory) {a a' : Nat} (xs : List Byte)
    (h : a' < a ∨ a + xs.length ≤ a') : (m.writeAll a xs).read a' = m.read a' := by
  induction xs generalizing m a with
  | nil => rfl
  | cons x xs ih =>
    simp only [List.length_cons] at h
    rw [Memory.writeAll, ih _ (by omega), Memory.read_write_other _ _ (by omega)]

theorem Memory.read_writeAll_inside {m : Memory} {a k : Nat} {xs : List Byte} (hw : m.wf = true)
    (ha : a + xs.length ≤ Config.memSize) (hk : k < xs.length) : (m.writeAll a xs).read (a + k) = xs[k] := by
  induction xs generalizing m a k with
  | nil => simp at hk
  | cons x xs ih =>
    simp only [List.length_cons] at ha hk
    cases k with
    | zero =>
      rw [Memory.writeAll, Memory.read_writeAll_outside _ _ (by omega)]
      exact Memory.read_write_same x hw (by omega)
    | succ k =>
      have := ih (Memory.wf_write a x hw) (a := a + 1) (k := k) (by omega) (by omega)
      rw [Memory.writeAll, show a + (k + 1) = a + 1 + k by omega, this]; rfl

theorem Memory.wfFrom_romCells {a : Nat} (rom : List Byte) (h : a + rom.length ≤ Config.memSize) :
    Memory.wfFrom a (romCells a rom) = true := by
  induction rom generalizing a with
  | nil => rfl
  | cons b bs ih =>
    simp only [List.length_cons] at h
    simp only [romCells]
    split_ifs with hb
    · exact Memory.wfFrom_mono (ih (a := a + 1) (by omega)) (by omega)
    · simp only [Memory.wfFrom, Bool.and_eq_true, decide_eq_true_eq]
      exact ⟨⟨⟨le_refl a, by omega⟩, hb⟩, ih (by omega)⟩

/-- INIT's memory is canonical (R310). -/
theorem Memory.wf_romCells {a : Nat} (rom : List Byte) (h : a + rom.length ≤ Config.memSize) :
    Memory.wf (romCells a rom) = true :=
  Memory.wfFrom_mono (Memory.wfFrom_romCells rom h) (Nat.zero_le a)

theorem Memory.read_romCells_outside {a a' : Nat} (rom : List Byte) (h : a' < a ∨ a + rom.length ≤ a') :
    Memory.read (romCells a rom) a' = Memory.unlisted a' := by
  induction rom generalizing a with
  | nil => rfl
  | cons b bs ih =>
    simp only [List.length_cons] at h
    simp only [romCells]
    split_ifs
    · exact ih (by omega)
    · rw [Memory.read, if_neg (by omega)]; exact ih (by omega)

theorem Memory.read_romCells_inside {a k : Nat} {rom : List Byte} (hk : k < rom.length) :
    Memory.read (romCells a rom) (a + k) = rom[k] := by
  induction rom generalizing a k with
  | nil => simp at hk
  | cons b bs ih =>
    simp only [List.length_cons] at hk
    cases k with
    | zero =>
      simp only [romCells]
      split_ifs with hb
      · rw [Memory.read_romCells_outside _ (by omega)]; simpa using hb.symm
      · simp [Memory.read]
    | succ k =>
      have h := ih (a := a + 1) (k := k) (by omega)
      have e : a + (k + 1) = a + 1 + k := by omega
      simp only [romCells]
      split_ifs
      · rw [e, h]; rfl
      · rw [Memory.read, if_neg (by omega), e, h]; rfl

/-- Reset memory is canonical. -/
theorem State.reset_mem_wf : State.reset.mem.wf = true := rfl

end Sys2Proof.Machine
end

