-- ==== Sys2Proof/Laws/State.lean ====
section
/-! SUPPORT. What each update of State does to each field and to each indexed read, so that no later proof unfolds a
record update. -/

namespace Sys2Proof.Machine

/-! ### State.setI -/

@[simp] theorem State.setI_v (w : Word) (s : State) : (s.setI w).v = s.v := rfl
@[simp] theorem State.setI_i (w : Word) (s : State) : (s.setI w).i = w := rfl
@[simp] theorem State.setI_pc (w : Word) (s : State) : (s.setI w).pc = s.pc := rfl
@[simp] theorem State.setI_sp (w : Word) (s : State) : (s.setI w).sp = s.sp := rfl
@[simp] theorem State.setI_stack (w : Word) (s : State) : (s.setI w).stack = s.stack := rfl
@[simp] theorem State.setI_dt (w : Word) (s : State) : (s.setI w).dt = s.dt := rfl
@[simp] theorem State.setI_st (w : Word) (s : State) : (s.setI w).st = s.st := rfl
@[simp] theorem State.setI_mem (w : Word) (s : State) : (s.setI w).mem = s.mem := rfl
@[simp] theorem State.setI_fb (w : Word) (s : State) : (s.setI w).fb = s.fb := rfl
@[simp] theorem State.setI_key (w : Word) (s : State) : (s.setI w).key = s.key := rfl
@[simp] theorem State.setI_mode (w : Word) (s : State) : (s.setI w).mode = s.mode := rfl
@[simp] theorem State.setI_kprev (w : Word) (s : State) : (s.setI w).kprev = s.kprev := rfl
@[simp] theorem State.setI_draws (w : Word) (s : State) : (s.setI w).draws = s.draws := rfl
@[simp] theorem State.setI_status (w : Word) (s : State) : (s.setI w).status = s.status := rfl
@[simp] theorem State.setI_faultMark (w : Word) (s : State) : (s.setI w).faultMark = s.faultMark := rfl
@[simp] theorem State.setI_live (w : Word) (s : State) : (s.setI w).live = s.live := rfl
@[simp] theorem State.setI_schedule (w : Word) (s : State) : (s.setI w).schedule = s.schedule := rfl
@[simp] theorem State.setI_readV (w : Word) (s : State) (y : Nibble) : (s.setI w).readV y = s.readV y := rfl
@[simp] theorem State.setI_slot (w : Word) (s : State) (j : Nibble) : (s.setI w).slot j = s.slot j := rfl
@[simp] theorem State.setI_readByte (w : Word) (s : State) (a : Nat) : (s.setI w).readByte a = s.readByte a := rfl
@[simp] theorem State.setI_pixel (w : Word) (s : State) (px : Fin 64) (py : Fin 32) : (s.setI w).pixel px py = s.pixel px py := rfl
@[simp] theorem State.setI_keyDown (w : Word) (s : State) (j : Nibble) : (s.setI w).keyDown j = s.keyDown j := rfl
@[simp] theorem State.setI_keyWasDown (w : Word) (s : State) (j : Nibble) : (s.setI w).keyWasDown j = s.keyWasDown j := rfl

/-! ### State.setPc -/

@[simp] theorem State.setPc_v (w : Word) (s : State) : (s.setPc w).v = s.v := rfl
@[simp] theorem State.setPc_i (w : Word) (s : State) : (s.setPc w).i = s.i := rfl
@[simp] theorem State.setPc_pc (w : Word) (s : State) : (s.setPc w).pc = w := rfl
@[simp] theorem State.setPc_sp (w : Word) (s : State) : (s.setPc w).sp = s.sp := rfl
@[simp] theorem State.setPc_stack (w : Word) (s : State) : (s.setPc w).stack = s.stack := rfl
@[simp] theorem State.setPc_dt (w : Word) (s : State) : (s.setPc w).dt = s.dt := rfl
@[simp] theorem State.setPc_st (w : Word) (s : State) : (s.setPc w).st = s.st := rfl
@[simp] theorem State.setPc_mem (w : Word) (s : State) : (s.setPc w).mem = s.mem := rfl
@[simp] theorem State.setPc_fb (w : Word) (s : State) : (s.setPc w).fb = s.fb := rfl
@[simp] theorem State.setPc_key (w : Word) (s : State) : (s.setPc w).key = s.key := rfl
@[simp] theorem State.setPc_mode (w : Word) (s : State) : (s.setPc w).mode = s.mode := rfl
@[simp] theorem State.setPc_kprev (w : Word) (s : State) : (s.setPc w).kprev = s.kprev := rfl
@[simp] theorem State.setPc_draws (w : Word) (s : State) : (s.setPc w).draws = s.draws := rfl
@[simp] theorem State.setPc_status (w : Word) (s : State) : (s.setPc w).status = s.status := rfl
@[simp] theorem State.setPc_faultMark (w : Word) (s : State) : (s.setPc w).faultMark = s.faultMark := rfl
@[simp] theorem State.setPc_live (w : Word) (s : State) : (s.setPc w).live = s.live := rfl
@[simp] theorem State.setPc_schedule (w : Word) (s : State) : (s.setPc w).schedule = s.schedule := rfl
@[simp] theorem State.setPc_readV (w : Word) (s : State) (y : Nibble) : (s.setPc w).readV y = s.readV y := rfl
@[simp] theorem State.setPc_slot (w : Word) (s : State) (j : Nibble) : (s.setPc w).slot j = s.slot j := rfl
@[simp] theorem State.setPc_readByte (w : Word) (s : State) (a : Nat) : (s.setPc w).readByte a = s.readByte a := rfl
@[simp] theorem State.setPc_pixel (w : Word) (s : State) (px : Fin 64) (py : Fin 32) : (s.setPc w).pixel px py = s.pixel px py := rfl
@[simp] theorem State.setPc_keyDown (w : Word) (s : State) (j : Nibble) : (s.setPc w).keyDown j = s.keyDown j := rfl
@[simp] theorem State.setPc_keyWasDown (w : Word) (s : State) (j : Nibble) : (s.setPc w).keyWasDown j = s.keyWasDown j := rfl

/-! ### State.setSp -/

@[simp] theorem State.setSp_v (b : Byte) (s : State) : (s.setSp b).v = s.v := rfl
@[simp] theorem State.setSp_i (b : Byte) (s : State) : (s.setSp b).i = s.i := rfl
@[simp] theorem State.setSp_pc (b : Byte) (s : State) : (s.setSp b).pc = s.pc := rfl
@[simp] theorem State.setSp_sp (b : Byte) (s : State) : (s.setSp b).sp = b := rfl
@[simp] theorem State.setSp_stack (b : Byte) (s : State) : (s.setSp b).stack = s.stack := rfl
@[simp] theorem State.setSp_dt (b : Byte) (s : State) : (s.setSp b).dt = s.dt := rfl
@[simp] theorem State.setSp_st (b : Byte) (s : State) : (s.setSp b).st = s.st := rfl
@[simp] theorem State.setSp_mem (b : Byte) (s : State) : (s.setSp b).mem = s.mem := rfl
@[simp] theorem State.setSp_fb (b : Byte) (s : State) : (s.setSp b).fb = s.fb := rfl
@[simp] theorem State.setSp_key (b : Byte) (s : State) : (s.setSp b).key = s.key := rfl
@[simp] theorem State.setSp_mode (b : Byte) (s : State) : (s.setSp b).mode = s.mode := rfl
@[simp] theorem State.setSp_kprev (b : Byte) (s : State) : (s.setSp b).kprev = s.kprev := rfl
@[simp] theorem State.setSp_draws (b : Byte) (s : State) : (s.setSp b).draws = s.draws := rfl
@[simp] theorem State.setSp_status (b : Byte) (s : State) : (s.setSp b).status = s.status := rfl
@[simp] theorem State.setSp_faultMark (b : Byte) (s : State) : (s.setSp b).faultMark = s.faultMark := rfl
@[simp] theorem State.setSp_live (b : Byte) (s : State) : (s.setSp b).live = s.live := rfl
@[simp] theorem State.setSp_schedule (b : Byte) (s : State) : (s.setSp b).schedule = s.schedule := rfl
@[simp] theorem State.setSp_readV (b : Byte) (s : State) (y : Nibble) : (s.setSp b).readV y = s.readV y := rfl
@[simp] theorem State.setSp_slot (b : Byte) (s : State) (j : Nibble) : (s.setSp b).slot j = s.slot j := rfl
@[simp] theorem State.setSp_readByte (b : Byte) (s : State) (a : Nat) : (s.setSp b).readByte a = s.readByte a := rfl
@[simp] theorem State.setSp_pixel (b : Byte) (s : State) (px : Fin 64) (py : Fin 32) : (s.setSp b).pixel px py = s.pixel px py := rfl
@[simp] theorem State.setSp_keyDown (b : Byte) (s : State) (j : Nibble) : (s.setSp b).keyDown j = s.keyDown j := rfl
@[simp] theorem State.setSp_keyWasDown (b : Byte) (s : State) (j : Nibble) : (s.setSp b).keyWasDown j = s.keyWasDown j := rfl

/-! ### State.setDt -/

@[simp] theorem State.setDt_v (b : Byte) (s : State) : (s.setDt b).v = s.v := rfl
@[simp] theorem State.setDt_i (b : Byte) (s : State) : (s.setDt b).i = s.i := rfl
@[simp] theorem State.setDt_pc (b : Byte) (s : State) : (s.setDt b).pc = s.pc := rfl
@[simp] theorem State.setDt_sp (b : Byte) (s : State) : (s.setDt b).sp = s.sp := rfl
@[simp] theorem State.setDt_stack (b : Byte) (s : State) : (s.setDt b).stack = s.stack := rfl
@[simp] theorem State.setDt_dt (b : Byte) (s : State) : (s.setDt b).dt = b := rfl
@[simp] theorem State.setDt_st (b : Byte) (s : State) : (s.setDt b).st = s.st := rfl
@[simp] theorem State.setDt_mem (b : Byte) (s : State) : (s.setDt b).mem = s.mem := rfl
@[simp] theorem State.setDt_fb (b : Byte) (s : State) : (s.setDt b).fb = s.fb := rfl
@[simp] theorem State.setDt_key (b : Byte) (s : State) : (s.setDt b).key = s.key := rfl
@[simp] theorem State.setDt_mode (b : Byte) (s : State) : (s.setDt b).mode = s.mode := rfl
@[simp] theorem State.setDt_kprev (b : Byte) (s : State) : (s.setDt b).kprev = s.kprev := rfl
@[simp] theorem State.setDt_draws (b : Byte) (s : State) : (s.setDt b).draws = s.draws := rfl
@[simp] theorem State.setDt_status (b : Byte) (s : State) : (s.setDt b).status = s.status := rfl
@[simp] theorem State.setDt_faultMark (b : Byte) (s : State) : (s.setDt b).faultMark = s.faultMark := rfl
@[simp] theorem State.setDt_live (b : Byte) (s : State) : (s.setDt b).live = s.live := rfl
@[simp] theorem State.setDt_schedule (b : Byte) (s : State) : (s.setDt b).schedule = s.schedule := rfl
@[simp] theorem State.setDt_readV (b : Byte) (s : State) (y : Nibble) : (s.setDt b).readV y = s.readV y := rfl
@[simp] theorem State.setDt_slot (b : Byte) (s : State) (j : Nibble) : (s.setDt b).slot j = s.slot j := rfl
@[simp] theorem State.setDt_readByte (b : Byte) (s : State) (a : Nat) : (s.setDt b).readByte a = s.readByte a := rfl
@[simp] theorem State.setDt_pixel (b : Byte) (s : State) (px : Fin 64) (py : Fin 32) : (s.setDt b).pixel px py = s.pixel px py := rfl
@[simp] theorem State.setDt_keyDown (b : Byte) (s : State) (j : Nibble) : (s.setDt b).keyDown j = s.keyDown j := rfl
@[simp] theorem State.setDt_keyWasDown (b : Byte) (s : State) (j : Nibble) : (s.setDt b).keyWasDown j = s.keyWasDown j := rfl

/-! ### State.setSt -/

@[simp] theorem State.setSt_v (b : Byte) (s : State) : (s.setSt b).v = s.v := rfl
@[simp] theorem State.setSt_i (b : Byte) (s : State) : (s.setSt b).i = s.i := rfl
@[simp] theorem State.setSt_pc (b : Byte) (s : State) : (s.setSt b).pc = s.pc := rfl
@[simp] theorem State.setSt_sp (b : Byte) (s : State) : (s.setSt b).sp = s.sp := rfl
@[simp] theorem State.setSt_stack (b : Byte) (s : State) : (s.setSt b).stack = s.stack := rfl
@[simp] theorem State.setSt_dt (b : Byte) (s : State) : (s.setSt b).dt = s.dt := rfl
@[simp] theorem State.setSt_st (b : Byte) (s : State) : (s.setSt b).st = b := rfl
@[simp] theorem State.setSt_mem (b : Byte) (s : State) : (s.setSt b).mem = s.mem := rfl
@[simp] theorem State.setSt_fb (b : Byte) (s : State) : (s.setSt b).fb = s.fb := rfl
@[simp] theorem State.setSt_key (b : Byte) (s : State) : (s.setSt b).key = s.key := rfl
@[simp] theorem State.setSt_mode (b : Byte) (s : State) : (s.setSt b).mode = s.mode := rfl
@[simp] theorem State.setSt_kprev (b : Byte) (s : State) : (s.setSt b).kprev = s.kprev := rfl
@[simp] theorem State.setSt_draws (b : Byte) (s : State) : (s.setSt b).draws = s.draws := rfl
@[simp] theorem State.setSt_status (b : Byte) (s : State) : (s.setSt b).status = s.status := rfl
@[simp] theorem State.setSt_faultMark (b : Byte) (s : State) : (s.setSt b).faultMark = s.faultMark := rfl
@[simp] theorem State.setSt_live (b : Byte) (s : State) : (s.setSt b).live = s.live := rfl
@[simp] theorem State.setSt_schedule (b : Byte) (s : State) : (s.setSt b).schedule = s.schedule := rfl
@[simp] theorem State.setSt_readV (b : Byte) (s : State) (y : Nibble) : (s.setSt b).readV y = s.readV y := rfl
@[simp] theorem State.setSt_slot (b : Byte) (s : State) (j : Nibble) : (s.setSt b).slot j = s.slot j := rfl
@[simp] theorem State.setSt_readByte (b : Byte) (s : State) (a : Nat) : (s.setSt b).readByte a = s.readByte a := rfl
@[simp] theorem State.setSt_pixel (b : Byte) (s : State) (px : Fin 64) (py : Fin 32) : (s.setSt b).pixel px py = s.pixel px py := rfl
@[simp] theorem State.setSt_keyDown (b : Byte) (s : State) (j : Nibble) : (s.setSt b).keyDown j = s.keyDown j := rfl
@[simp] theorem State.setSt_keyWasDown (b : Byte) (s : State) (j : Nibble) : (s.setSt b).keyWasDown j = s.keyWasDown j := rfl

/-! ### State.setMem -/

@[simp] theorem State.setMem_v (m : Memory) (s : State) : (s.setMem m).v = s.v := rfl
@[simp] theorem State.setMem_i (m : Memory) (s : State) : (s.setMem m).i = s.i := rfl
@[simp] theorem State.setMem_pc (m : Memory) (s : State) : (s.setMem m).pc = s.pc := rfl
@[simp] theorem State.setMem_sp (m : Memory) (s : State) : (s.setMem m).sp = s.sp := rfl
@[simp] theorem State.setMem_stack (m : Memory) (s : State) : (s.setMem m).stack = s.stack := rfl
@[simp] theorem State.setMem_dt (m : Memory) (s : State) : (s.setMem m).dt = s.dt := rfl
@[simp] theorem State.setMem_st (m : Memory) (s : State) : (s.setMem m).st = s.st := rfl
@[simp] theorem State.setMem_mem (m : Memory) (s : State) : (s.setMem m).mem = m := rfl
@[simp] theorem State.setMem_fb (m : Memory) (s : State) : (s.setMem m).fb = s.fb := rfl
@[simp] theorem State.setMem_key (m : Memory) (s : State) : (s.setMem m).key = s.key := rfl
@[simp] theorem State.setMem_mode (m : Memory) (s : State) : (s.setMem m).mode = s.mode := rfl
@[simp] theorem State.setMem_kprev (m : Memory) (s : State) : (s.setMem m).kprev = s.kprev := rfl
@[simp] theorem State.setMem_draws (m : Memory) (s : State) : (s.setMem m).draws = s.draws := rfl
@[simp] theorem State.setMem_status (m : Memory) (s : State) : (s.setMem m).status = s.status := rfl
@[simp] theorem State.setMem_faultMark (m : Memory) (s : State) : (s.setMem m).faultMark = s.faultMark := rfl
@[simp] theorem State.setMem_live (m : Memory) (s : State) : (s.setMem m).live = s.live := rfl
@[simp] theorem State.setMem_schedule (m : Memory) (s : State) : (s.setMem m).schedule = s.schedule := rfl
@[simp] theorem State.setMem_readV (m : Memory) (s : State) (y : Nibble) : (s.setMem m).readV y = s.readV y := rfl
@[simp] theorem State.setMem_slot (m : Memory) (s : State) (j : Nibble) : (s.setMem m).slot j = s.slot j := rfl
@[simp] theorem State.setMem_pixel (m : Memory) (s : State) (px : Fin 64) (py : Fin 32) : (s.setMem m).pixel px py = s.pixel px py := rfl
@[simp] theorem State.setMem_keyDown (m : Memory) (s : State) (j : Nibble) : (s.setMem m).keyDown j = s.keyDown j := rfl
@[simp] theorem State.setMem_keyWasDown (m : Memory) (s : State) (j : Nibble) : (s.setMem m).keyWasDown j = s.keyWasDown j := rfl

/-! ### State.setFb -/

@[simp] theorem State.setFb_v (f : FrameBuffer) (s : State) : (s.setFb f).v = s.v := rfl
@[simp] theorem State.setFb_i (f : FrameBuffer) (s : State) : (s.setFb f).i = s.i := rfl
@[simp] theorem State.setFb_pc (f : FrameBuffer) (s : State) : (s.setFb f).pc = s.pc := rfl
@[simp] theorem State.setFb_sp (f : FrameBuffer) (s : State) : (s.setFb f).sp = s.sp := rfl
@[simp] theorem State.setFb_stack (f : FrameBuffer) (s : State) : (s.setFb f).stack = s.stack := rfl
@[simp] theorem State.setFb_dt (f : FrameBuffer) (s : State) : (s.setFb f).dt = s.dt := rfl
@[simp] theorem State.setFb_st (f : FrameBuffer) (s : State) : (s.setFb f).st = s.st := rfl
@[simp] theorem State.setFb_mem (f : FrameBuffer) (s : State) : (s.setFb f).mem = s.mem := rfl
@[simp] theorem State.setFb_fb (f : FrameBuffer) (s : State) : (s.setFb f).fb = f := rfl
@[simp] theorem State.setFb_key (f : FrameBuffer) (s : State) : (s.setFb f).key = s.key := rfl
@[simp] theorem State.setFb_mode (f : FrameBuffer) (s : State) : (s.setFb f).mode = s.mode := rfl
@[simp] theorem State.setFb_kprev (f : FrameBuffer) (s : State) : (s.setFb f).kprev = s.kprev := rfl
@[simp] theorem State.setFb_draws (f : FrameBuffer) (s : State) : (s.setFb f).draws = s.draws := rfl
@[simp] theorem State.setFb_status (f : FrameBuffer) (s : State) : (s.setFb f).status = s.status := rfl
@[simp] theorem State.setFb_faultMark (f : FrameBuffer) (s : State) : (s.setFb f).faultMark = s.faultMark := rfl
@[simp] theorem State.setFb_live (f : FrameBuffer) (s : State) : (s.setFb f).live = s.live := rfl
@[simp] theorem State.setFb_schedule (f : FrameBuffer) (s : State) : (s.setFb f).schedule = s.schedule := rfl
@[simp] theorem State.setFb_readV (f : FrameBuffer) (s : State) (y : Nibble) : (s.setFb f).readV y = s.readV y := rfl
@[simp] theorem State.setFb_slot (f : FrameBuffer) (s : State) (j : Nibble) : (s.setFb f).slot j = s.slot j := rfl
@[simp] theorem State.setFb_readByte (f : FrameBuffer) (s : State) (a : Nat) : (s.setFb f).readByte a = s.readByte a := rfl
@[simp] theorem State.setFb_keyDown (f : FrameBuffer) (s : State) (j : Nibble) : (s.setFb f).keyDown j = s.keyDown j := rfl
@[simp] theorem State.setFb_keyWasDown (f : FrameBuffer) (s : State) (j : Nibble) : (s.setFb f).keyWasDown j = s.keyWasDown j := rfl

/-! ### State.setKeys -/

@[simp] theorem State.setKeys_v (k : Vector Bool 16) (s : State) : (s.setKeys k).v = s.v := rfl
@[simp] theorem State.setKeys_i (k : Vector Bool 16) (s : State) : (s.setKeys k).i = s.i := rfl
@[simp] theorem State.setKeys_pc (k : Vector Bool 16) (s : State) : (s.setKeys k).pc = s.pc := rfl
@[simp] theorem State.setKeys_sp (k : Vector Bool 16) (s : State) : (s.setKeys k).sp = s.sp := rfl
@[simp] theorem State.setKeys_stack (k : Vector Bool 16) (s : State) : (s.setKeys k).stack = s.stack := rfl
@[simp] theorem State.setKeys_dt (k : Vector Bool 16) (s : State) : (s.setKeys k).dt = s.dt := rfl
@[simp] theorem State.setKeys_st (k : Vector Bool 16) (s : State) : (s.setKeys k).st = s.st := rfl
@[simp] theorem State.setKeys_mem (k : Vector Bool 16) (s : State) : (s.setKeys k).mem = s.mem := rfl
@[simp] theorem State.setKeys_fb (k : Vector Bool 16) (s : State) : (s.setKeys k).fb = s.fb := rfl
@[simp] theorem State.setKeys_key (k : Vector Bool 16) (s : State) : (s.setKeys k).key = k := rfl
@[simp] theorem State.setKeys_mode (k : Vector Bool 16) (s : State) : (s.setKeys k).mode = s.mode := rfl
@[simp] theorem State.setKeys_kprev (k : Vector Bool 16) (s : State) : (s.setKeys k).kprev = s.kprev := rfl
@[simp] theorem State.setKeys_draws (k : Vector Bool 16) (s : State) : (s.setKeys k).draws = s.draws := rfl
@[simp] theorem State.setKeys_status (k : Vector Bool 16) (s : State) : (s.setKeys k).status = s.status := rfl
@[simp] theorem State.setKeys_faultMark (k : Vector Bool 16) (s : State) : (s.setKeys k).faultMark = s.faultMark := rfl
@[simp] theorem State.setKeys_live (k : Vector Bool 16) (s : State) : (s.setKeys k).live = s.live := rfl
@[simp] theorem State.setKeys_schedule (k : Vector Bool 16) (s : State) : (s.setKeys k).schedule = s.schedule := rfl
@[simp] theorem State.setKeys_readV (k : Vector Bool 16) (s : State) (y : Nibble) : (s.setKeys k).readV y = s.readV y := rfl
@[simp] theorem State.setKeys_slot (k : Vector Bool 16) (s : State) (j : Nibble) : (s.setKeys k).slot j = s.slot j := rfl
@[simp] theorem State.setKeys_readByte (k : Vector Bool 16) (s : State) (a : Nat) : (s.setKeys k).readByte a = s.readByte a := rfl
@[simp] theorem State.setKeys_pixel (k : Vector Bool 16) (s : State) (px : Fin 64) (py : Fin 32) : (s.setKeys k).pixel px py = s.pixel px py := rfl
@[simp] theorem State.setKeys_keyWasDown (k : Vector Bool 16) (s : State) (j : Nibble) : (s.setKeys k).keyWasDown j = s.keyWasDown j := rfl

/-! ### State.setMode -/

@[simp] theorem State.setMode_v (m : Mode) (s : State) : (s.setMode m).v = s.v := rfl
@[simp] theorem State.setMode_i (m : Mode) (s : State) : (s.setMode m).i = s.i := rfl
@[simp] theorem State.setMode_pc (m : Mode) (s : State) : (s.setMode m).pc = s.pc := rfl
@[simp] theorem State.setMode_sp (m : Mode) (s : State) : (s.setMode m).sp = s.sp := rfl
@[simp] theorem State.setMode_stack (m : Mode) (s : State) : (s.setMode m).stack = s.stack := rfl
@[simp] theorem State.setMode_dt (m : Mode) (s : State) : (s.setMode m).dt = s.dt := rfl
@[simp] theorem State.setMode_st (m : Mode) (s : State) : (s.setMode m).st = s.st := rfl
@[simp] theorem State.setMode_mem (m : Mode) (s : State) : (s.setMode m).mem = s.mem := rfl
@[simp] theorem State.setMode_fb (m : Mode) (s : State) : (s.setMode m).fb = s.fb := rfl
@[simp] theorem State.setMode_key (m : Mode) (s : State) : (s.setMode m).key = s.key := rfl
@[simp] theorem State.setMode_mode (m : Mode) (s : State) : (s.setMode m).mode = m := rfl
@[simp] theorem State.setMode_kprev (m : Mode) (s : State) : (s.setMode m).kprev = s.kprev := rfl
@[simp] theorem State.setMode_draws (m : Mode) (s : State) : (s.setMode m).draws = s.draws := rfl
@[simp] theorem State.setMode_status (m : Mode) (s : State) : (s.setMode m).status = s.status := rfl
@[simp] theorem State.setMode_faultMark (m : Mode) (s : State) : (s.setMode m).faultMark = s.faultMark := rfl
@[simp] theorem State.setMode_live (m : Mode) (s : State) : (s.setMode m).live = s.live := rfl
@[simp] theorem State.setMode_schedule (m : Mode) (s : State) : (s.setMode m).schedule = s.schedule := rfl
@[simp] theorem State.setMode_readV (m : Mode) (s : State) (y : Nibble) : (s.setMode m).readV y = s.readV y := rfl
@[simp] theorem State.setMode_slot (m : Mode) (s : State) (j : Nibble) : (s.setMode m).slot j = s.slot j := rfl
@[simp] theorem State.setMode_readByte (m : Mode) (s : State) (a : Nat) : (s.setMode m).readByte a = s.readByte a := rfl
@[simp] theorem State.setMode_pixel (m : Mode) (s : State) (px : Fin 64) (py : Fin 32) : (s.setMode m).pixel px py = s.pixel px py := rfl
@[simp] theorem State.setMode_keyDown (m : Mode) (s : State) (j : Nibble) : (s.setMode m).keyDown j = s.keyDown j := rfl
@[simp] theorem State.setMode_keyWasDown (m : Mode) (s : State) (j : Nibble) : (s.setMode m).keyWasDown j = s.keyWasDown j := rfl

/-! ### State.setKprev -/

@[simp] theorem State.setKprev_v (k : Vector Bool 16) (s : State) : (s.setKprev k).v = s.v := rfl
@[simp] theorem State.setKprev_i (k : Vector Bool 16) (s : State) : (s.setKprev k).i = s.i := rfl
@[simp] theorem State.setKprev_pc (k : Vector Bool 16) (s : State) : (s.setKprev k).pc = s.pc := rfl
@[simp] theorem State.setKprev_sp (k : Vector Bool 16) (s : State) : (s.setKprev k).sp = s.sp := rfl
@[simp] theorem State.setKprev_stack (k : Vector Bool 16) (s : State) : (s.setKprev k).stack = s.stack := rfl
@[simp] theorem State.setKprev_dt (k : Vector Bool 16) (s : State) : (s.setKprev k).dt = s.dt := rfl
@[simp] theorem State.setKprev_st (k : Vector Bool 16) (s : State) : (s.setKprev k).st = s.st := rfl
@[simp] theorem State.setKprev_mem (k : Vector Bool 16) (s : State) : (s.setKprev k).mem = s.mem := rfl
@[simp] theorem State.setKprev_fb (k : Vector Bool 16) (s : State) : (s.setKprev k).fb = s.fb := rfl
@[simp] theorem State.setKprev_key (k : Vector Bool 16) (s : State) : (s.setKprev k).key = s.key := rfl
@[simp] theorem State.setKprev_mode (k : Vector Bool 16) (s : State) : (s.setKprev k).mode = s.mode := rfl
@[simp] theorem State.setKprev_kprev (k : Vector Bool 16) (s : State) : (s.setKprev k).kprev = k := rfl
@[simp] theorem State.setKprev_draws (k : Vector Bool 16) (s : State) : (s.setKprev k).draws = s.draws := rfl
@[simp] theorem State.setKprev_status (k : Vector Bool 16) (s : State) : (s.setKprev k).status = s.status := rfl
@[simp] theorem State.setKprev_faultMark (k : Vector Bool 16) (s : State) : (s.setKprev k).faultMark = s.faultMark := rfl
@[simp] theorem State.setKprev_live (k : Vector Bool 16) (s : State) : (s.setKprev k).live = s.live := rfl
@[simp] theorem State.setKprev_schedule (k : Vector Bool 16) (s : State) : (s.setKprev k).schedule = s.schedule := rfl
@[simp] theorem State.setKprev_readV (k : Vector Bool 16) (s : State) (y : Nibble) : (s.setKprev k).readV y = s.readV y := rfl
@[simp] theorem State.setKprev_slot (k : Vector Bool 16) (s : State) (j : Nibble) : (s.setKprev k).slot j = s.slot j := rfl
@[simp] theorem State.setKprev_readByte (k : Vector Bool 16) (s : State) (a : Nat) : (s.setKprev k).readByte a = s.readByte a := rfl
@[simp] theorem State.setKprev_pixel (k : Vector Bool 16) (s : State) (px : Fin 64) (py : Fin 32) : (s.setKprev k).pixel px py = s.pixel px py := rfl
@[simp] theorem State.setKprev_keyDown (k : Vector Bool 16) (s : State) (j : Nibble) : (s.setKprev k).keyDown j = s.keyDown j := rfl

/-! ### State.setDraws -/

@[simp] theorem State.setDraws_v (n : Nat) (s : State) : (s.setDraws n).v = s.v := rfl
@[simp] theorem State.setDraws_i (n : Nat) (s : State) : (s.setDraws n).i = s.i := rfl
@[simp] theorem State.setDraws_pc (n : Nat) (s : State) : (s.setDraws n).pc = s.pc := rfl
@[simp] theorem State.setDraws_sp (n : Nat) (s : State) : (s.setDraws n).sp = s.sp := rfl
@[simp] theorem State.setDraws_stack (n : Nat) (s : State) : (s.setDraws n).stack = s.stack := rfl
@[simp] theorem State.setDraws_dt (n : Nat) (s : State) : (s.setDraws n).dt = s.dt := rfl
@[simp] theorem State.setDraws_st (n : Nat) (s : State) : (s.setDraws n).st = s.st := rfl
@[simp] theorem State.setDraws_mem (n : Nat) (s : State) : (s.setDraws n).mem = s.mem := rfl
@[simp] theorem State.setDraws_fb (n : Nat) (s : State) : (s.setDraws n).fb = s.fb := rfl
@[simp] theorem State.setDraws_key (n : Nat) (s : State) : (s.setDraws n).key = s.key := rfl
@[simp] theorem State.setDraws_mode (n : Nat) (s : State) : (s.setDraws n).mode = s.mode := rfl
@[simp] theorem State.setDraws_kprev (n : Nat) (s : State) : (s.setDraws n).kprev = s.kprev := rfl
@[simp] theorem State.setDraws_draws (n : Nat) (s : State) : (s.setDraws n).draws = n := rfl
@[simp] theorem State.setDraws_status (n : Nat) (s : State) : (s.setDraws n).status = s.status := rfl
@[simp] theorem State.setDraws_faultMark (n : Nat) (s : State) : (s.setDraws n).faultMark = s.faultMark := rfl
@[simp] theorem State.setDraws_live (n : Nat) (s : State) : (s.setDraws n).live = s.live := rfl
@[simp] theorem State.setDraws_schedule (n : Nat) (s : State) : (s.setDraws n).schedule = s.schedule := rfl
@[simp] theorem State.setDraws_readV (n : Nat) (s : State) (y : Nibble) : (s.setDraws n).readV y = s.readV y := rfl
@[simp] theorem State.setDraws_slot (n : Nat) (s : State) (j : Nibble) : (s.setDraws n).slot j = s.slot j := rfl
@[simp] theorem State.setDraws_readByte (n : Nat) (s : State) (a : Nat) : (s.setDraws n).readByte a = s.readByte a := rfl
@[simp] theorem State.setDraws_pixel (n : Nat) (s : State) (px : Fin 64) (py : Fin 32) : (s.setDraws n).pixel px py = s.pixel px py := rfl
@[simp] theorem State.setDraws_keyDown (n : Nat) (s : State) (j : Nibble) : (s.setDraws n).keyDown j = s.keyDown j := rfl
@[simp] theorem State.setDraws_keyWasDown (n : Nat) (s : State) (j : Nibble) : (s.setDraws n).keyWasDown j = s.keyWasDown j := rfl

/-! ### State.setStatus -/

@[simp] theorem State.setStatus_v (e : Status) (s : State) : (s.setStatus e).v = s.v := rfl
@[simp] theorem State.setStatus_i (e : Status) (s : State) : (s.setStatus e).i = s.i := rfl
@[simp] theorem State.setStatus_pc (e : Status) (s : State) : (s.setStatus e).pc = s.pc := rfl
@[simp] theorem State.setStatus_sp (e : Status) (s : State) : (s.setStatus e).sp = s.sp := rfl
@[simp] theorem State.setStatus_stack (e : Status) (s : State) : (s.setStatus e).stack = s.stack := rfl
@[simp] theorem State.setStatus_dt (e : Status) (s : State) : (s.setStatus e).dt = s.dt := rfl
@[simp] theorem State.setStatus_st (e : Status) (s : State) : (s.setStatus e).st = s.st := rfl
@[simp] theorem State.setStatus_mem (e : Status) (s : State) : (s.setStatus e).mem = s.mem := rfl
@[simp] theorem State.setStatus_fb (e : Status) (s : State) : (s.setStatus e).fb = s.fb := rfl
@[simp] theorem State.setStatus_key (e : Status) (s : State) : (s.setStatus e).key = s.key := rfl
@[simp] theorem State.setStatus_mode (e : Status) (s : State) : (s.setStatus e).mode = s.mode := rfl
@[simp] theorem State.setStatus_kprev (e : Status) (s : State) : (s.setStatus e).kprev = s.kprev := rfl
@[simp] theorem State.setStatus_draws (e : Status) (s : State) : (s.setStatus e).draws = s.draws := rfl
@[simp] theorem State.setStatus_status (e : Status) (s : State) : (s.setStatus e).status = e := rfl
@[simp] theorem State.setStatus_faultMark (e : Status) (s : State) : (s.setStatus e).faultMark = s.faultMark := rfl
@[simp] theorem State.setStatus_live (e : Status) (s : State) : (s.setStatus e).live = s.live := rfl
@[simp] theorem State.setStatus_schedule (e : Status) (s : State) : (s.setStatus e).schedule = s.schedule := rfl
@[simp] theorem State.setStatus_readV (e : Status) (s : State) (y : Nibble) : (s.setStatus e).readV y = s.readV y := rfl
@[simp] theorem State.setStatus_slot (e : Status) (s : State) (j : Nibble) : (s.setStatus e).slot j = s.slot j := rfl
@[simp] theorem State.setStatus_readByte (e : Status) (s : State) (a : Nat) : (s.setStatus e).readByte a = s.readByte a := rfl
@[simp] theorem State.setStatus_pixel (e : Status) (s : State) (px : Fin 64) (py : Fin 32) : (s.setStatus e).pixel px py = s.pixel px py := rfl
@[simp] theorem State.setStatus_keyDown (e : Status) (s : State) (j : Nibble) : (s.setStatus e).keyDown j = s.keyDown j := rfl
@[simp] theorem State.setStatus_keyWasDown (e : Status) (s : State) (j : Nibble) : (s.setStatus e).keyWasDown j = s.keyWasDown j := rfl

/-! ### State.setFaultMark -/

@[simp] theorem State.setFaultMark_v (b : Bool) (s : State) : (s.setFaultMark b).v = s.v := rfl
@[simp] theorem State.setFaultMark_i (b : Bool) (s : State) : (s.setFaultMark b).i = s.i := rfl
@[simp] theorem State.setFaultMark_pc (b : Bool) (s : State) : (s.setFaultMark b).pc = s.pc := rfl
@[simp] theorem State.setFaultMark_sp (b : Bool) (s : State) : (s.setFaultMark b).sp = s.sp := rfl
@[simp] theorem State.setFaultMark_stack (b : Bool) (s : State) : (s.setFaultMark b).stack = s.stack := rfl
@[simp] theorem State.setFaultMark_dt (b : Bool) (s : State) : (s.setFaultMark b).dt = s.dt := rfl
@[simp] theorem State.setFaultMark_st (b : Bool) (s : State) : (s.setFaultMark b).st = s.st := rfl
@[simp] theorem State.setFaultMark_mem (b : Bool) (s : State) : (s.setFaultMark b).mem = s.mem := rfl
@[simp] theorem State.setFaultMark_fb (b : Bool) (s : State) : (s.setFaultMark b).fb = s.fb := rfl
@[simp] theorem State.setFaultMark_key (b : Bool) (s : State) : (s.setFaultMark b).key = s.key := rfl
@[simp] theorem State.setFaultMark_mode (b : Bool) (s : State) : (s.setFaultMark b).mode = s.mode := rfl
@[simp] theorem State.setFaultMark_kprev (b : Bool) (s : State) : (s.setFaultMark b).kprev = s.kprev := rfl
@[simp] theorem State.setFaultMark_draws (b : Bool) (s : State) : (s.setFaultMark b).draws = s.draws := rfl
@[simp] theorem State.setFaultMark_status (b : Bool) (s : State) : (s.setFaultMark b).status = s.status := rfl
@[simp] theorem State.setFaultMark_faultMark (b : Bool) (s : State) : (s.setFaultMark b).faultMark = b := rfl
@[simp] theorem State.setFaultMark_live (b : Bool) (s : State) : (s.setFaultMark b).live = s.live := rfl
@[simp] theorem State.setFaultMark_schedule (b : Bool) (s : State) : (s.setFaultMark b).schedule = s.schedule := rfl
@[simp] theorem State.setFaultMark_readV (b : Bool) (s : State) (y : Nibble) : (s.setFaultMark b).readV y = s.readV y := rfl
@[simp] theorem State.setFaultMark_slot (b : Bool) (s : State) (j : Nibble) : (s.setFaultMark b).slot j = s.slot j := rfl
@[simp] theorem State.setFaultMark_readByte (b : Bool) (s : State) (a : Nat) : (s.setFaultMark b).readByte a = s.readByte a := rfl
@[simp] theorem State.setFaultMark_pixel (b : Bool) (s : State) (px : Fin 64) (py : Fin 32) : (s.setFaultMark b).pixel px py = s.pixel px py := rfl
@[simp] theorem State.setFaultMark_keyDown (b : Bool) (s : State) (j : Nibble) : (s.setFaultMark b).keyDown j = s.keyDown j := rfl
@[simp] theorem State.setFaultMark_keyWasDown (b : Bool) (s : State) (j : Nibble) : (s.setFaultMark b).keyWasDown j = s.keyWasDown j := rfl

/-! ### State.setLive -/

@[simp] theorem State.setLive_v (b : Bool) (s : State) : (s.setLive b).v = s.v := rfl
@[simp] theorem State.setLive_i (b : Bool) (s : State) : (s.setLive b).i = s.i := rfl
@[simp] theorem State.setLive_pc (b : Bool) (s : State) : (s.setLive b).pc = s.pc := rfl
@[simp] theorem State.setLive_sp (b : Bool) (s : State) : (s.setLive b).sp = s.sp := rfl
@[simp] theorem State.setLive_stack (b : Bool) (s : State) : (s.setLive b).stack = s.stack := rfl
@[simp] theorem State.setLive_dt (b : Bool) (s : State) : (s.setLive b).dt = s.dt := rfl
@[simp] theorem State.setLive_st (b : Bool) (s : State) : (s.setLive b).st = s.st := rfl
@[simp] theorem State.setLive_mem (b : Bool) (s : State) : (s.setLive b).mem = s.mem := rfl
@[simp] theorem State.setLive_fb (b : Bool) (s : State) : (s.setLive b).fb = s.fb := rfl
@[simp] theorem State.setLive_key (b : Bool) (s : State) : (s.setLive b).key = s.key := rfl
@[simp] theorem State.setLive_mode (b : Bool) (s : State) : (s.setLive b).mode = s.mode := rfl
@[simp] theorem State.setLive_kprev (b : Bool) (s : State) : (s.setLive b).kprev = s.kprev := rfl
@[simp] theorem State.setLive_draws (b : Bool) (s : State) : (s.setLive b).draws = s.draws := rfl
@[simp] theorem State.setLive_status (b : Bool) (s : State) : (s.setLive b).status = s.status := rfl
@[simp] theorem State.setLive_faultMark (b : Bool) (s : State) : (s.setLive b).faultMark = s.faultMark := rfl
@[simp] theorem State.setLive_live (b : Bool) (s : State) : (s.setLive b).live = b := rfl
@[simp] theorem State.setLive_schedule (b : Bool) (s : State) : (s.setLive b).schedule = s.schedule := rfl
@[simp] theorem State.setLive_readV (b : Bool) (s : State) (y : Nibble) : (s.setLive b).readV y = s.readV y := rfl
@[simp] theorem State.setLive_slot (b : Bool) (s : State) (j : Nibble) : (s.setLive b).slot j = s.slot j := rfl
@[simp] theorem State.setLive_readByte (b : Bool) (s : State) (a : Nat) : (s.setLive b).readByte a = s.readByte a := rfl
@[simp] theorem State.setLive_pixel (b : Bool) (s : State) (px : Fin 64) (py : Fin 32) : (s.setLive b).pixel px py = s.pixel px py := rfl
@[simp] theorem State.setLive_keyDown (b : Bool) (s : State) (j : Nibble) : (s.setLive b).keyDown j = s.keyDown j := rfl
@[simp] theorem State.setLive_keyWasDown (b : Bool) (s : State) (j : Nibble) : (s.setLive b).keyWasDown j = s.keyWasDown j := rfl

/-! ### State.setSchedule -/

@[simp] theorem State.setSchedule_v (es : List Event) (s : State) : (s.setSchedule es).v = s.v := rfl
@[simp] theorem State.setSchedule_i (es : List Event) (s : State) : (s.setSchedule es).i = s.i := rfl
@[simp] theorem State.setSchedule_pc (es : List Event) (s : State) : (s.setSchedule es).pc = s.pc := rfl
@[simp] theorem State.setSchedule_sp (es : List Event) (s : State) : (s.setSchedule es).sp = s.sp := rfl
@[simp] theorem State.setSchedule_stack (es : List Event) (s : State) : (s.setSchedule es).stack = s.stack := rfl
@[simp] theorem State.setSchedule_dt (es : List Event) (s : State) : (s.setSchedule es).dt = s.dt := rfl
@[simp] theorem State.setSchedule_st (es : List Event) (s : State) : (s.setSchedule es).st = s.st := rfl
@[simp] theorem State.setSchedule_mem (es : List Event) (s : State) : (s.setSchedule es).mem = s.mem := rfl
@[simp] theorem State.setSchedule_fb (es : List Event) (s : State) : (s.setSchedule es).fb = s.fb := rfl
@[simp] theorem State.setSchedule_key (es : List Event) (s : State) : (s.setSchedule es).key = s.key := rfl
@[simp] theorem State.setSchedule_mode (es : List Event) (s : State) : (s.setSchedule es).mode = s.mode := rfl
@[simp] theorem State.setSchedule_kprev (es : List Event) (s : State) : (s.setSchedule es).kprev = s.kprev := rfl
@[simp] theorem State.setSchedule_draws (es : List Event) (s : State) : (s.setSchedule es).draws = s.draws := rfl
@[simp] theorem State.setSchedule_status (es : List Event) (s : State) : (s.setSchedule es).status = s.status := rfl
@[simp] theorem State.setSchedule_faultMark (es : List Event) (s : State) : (s.setSchedule es).faultMark = s.faultMark := rfl
@[simp] theorem State.setSchedule_live (es : List Event) (s : State) : (s.setSchedule es).live = s.live := rfl
@[simp] theorem State.setSchedule_schedule (es : List Event) (s : State) : (s.setSchedule es).schedule = es := rfl
@[simp] theorem State.setSchedule_readV (es : List Event) (s : State) (y : Nibble) : (s.setSchedule es).readV y = s.readV y := rfl
@[simp] theorem State.setSchedule_slot (es : List Event) (s : State) (j : Nibble) : (s.setSchedule es).slot j = s.slot j := rfl
@[simp] theorem State.setSchedule_readByte (es : List Event) (s : State) (a : Nat) : (s.setSchedule es).readByte a = s.readByte a := rfl
@[simp] theorem State.setSchedule_pixel (es : List Event) (s : State) (px : Fin 64) (py : Fin 32) : (s.setSchedule es).pixel px py = s.pixel px py := rfl
@[simp] theorem State.setSchedule_keyDown (es : List Event) (s : State) (j : Nibble) : (s.setSchedule es).keyDown j = s.keyDown j := rfl
@[simp] theorem State.setSchedule_keyWasDown (es : List Event) (s : State) (j : Nibble) : (s.setSchedule es).keyWasDown j = s.keyWasDown j := rfl

/-! ### State.setV -/

@[simp] theorem State.setV_v (x : Nibble) (b : Byte) (s : State) : (s.setV x b).v = s.v.set x.toNat b x.isLt := rfl
@[simp] theorem State.setV_i (x : Nibble) (b : Byte) (s : State) : (s.setV x b).i = s.i := rfl
@[simp] theorem State.setV_pc (x : Nibble) (b : Byte) (s : State) : (s.setV x b).pc = s.pc := rfl
@[simp] theorem State.setV_sp (x : Nibble) (b : Byte) (s : State) : (s.setV x b).sp = s.sp := rfl
@[simp] theorem State.setV_stack (x : Nibble) (b : Byte) (s : State) : (s.setV x b).stack = s.stack := rfl
@[simp] theorem State.setV_dt (x : Nibble) (b : Byte) (s : State) : (s.setV x b).dt = s.dt := rfl
@[simp] theorem State.setV_st (x : Nibble) (b : Byte) (s : State) : (s.setV x b).st = s.st := rfl
@[simp] theorem State.setV_mem (x : Nibble) (b : Byte) (s : State) : (s.setV x b).mem = s.mem := rfl
@[simp] theorem State.setV_fb (x : Nibble) (b : Byte) (s : State) : (s.setV x b).fb = s.fb := rfl
@[simp] theorem State.setV_key (x : Nibble) (b : Byte) (s : State) : (s.setV x b).key = s.key := rfl
@[simp] theorem State.setV_mode (x : Nibble) (b : Byte) (s : State) : (s.setV x b).mode = s.mode := rfl
@[simp] theorem State.setV_kprev (x : Nibble) (b : Byte) (s : State) : (s.setV x b).kprev = s.kprev := rfl
@[simp] theorem State.setV_draws (x : Nibble) (b : Byte) (s : State) : (s.setV x b).draws = s.draws := rfl
@[simp] theorem State.setV_status (x : Nibble) (b : Byte) (s : State) : (s.setV x b).status = s.status := rfl
@[simp] theorem State.setV_faultMark (x : Nibble) (b : Byte) (s : State) : (s.setV x b).faultMark = s.faultMark := rfl
@[simp] theorem State.setV_live (x : Nibble) (b : Byte) (s : State) : (s.setV x b).live = s.live := rfl
@[simp] theorem State.setV_schedule (x : Nibble) (b : Byte) (s : State) : (s.setV x b).schedule = s.schedule := rfl
@[simp] theorem State.setV_slot (x : Nibble) (b : Byte) (s : State) (j : Nibble) : (s.setV x b).slot j = s.slot j := rfl
@[simp] theorem State.setV_readByte (x : Nibble) (b : Byte) (s : State) (a : Nat) : (s.setV x b).readByte a = s.readByte a := rfl
@[simp] theorem State.setV_pixel (x : Nibble) (b : Byte) (s : State) (px : Fin 64) (py : Fin 32) : (s.setV x b).pixel px py = s.pixel px py := rfl
@[simp] theorem State.setV_keyDown (x : Nibble) (b : Byte) (s : State) (j : Nibble) : (s.setV x b).keyDown j = s.keyDown j := rfl
@[simp] theorem State.setV_keyWasDown (x : Nibble) (b : Byte) (s : State) (j : Nibble) : (s.setV x b).keyWasDown j = s.keyWasDown j := rfl

/-! ### State.setSlot -/

@[simp] theorem State.setSlot_v (k : Nibble) (w : Word) (s : State) : (s.setSlot k w).v = s.v := rfl
@[simp] theorem State.setSlot_i (k : Nibble) (w : Word) (s : State) : (s.setSlot k w).i = s.i := rfl
@[simp] theorem State.setSlot_pc (k : Nibble) (w : Word) (s : State) : (s.setSlot k w).pc = s.pc := rfl
@[simp] theorem State.setSlot_sp (k : Nibble) (w : Word) (s : State) : (s.setSlot k w).sp = s.sp := rfl
@[simp] theorem State.setSlot_stack (k : Nibble) (w : Word) (s : State) : (s.setSlot k w).stack = s.stack.set k.toNat w k.isLt := rfl
@[simp] theorem State.setSlot_dt (k : Nibble) (w : Word) (s : State) : (s.setSlot k w).dt = s.dt := rfl
@[simp] theorem State.setSlot_st (k : Nibble) (w : Word) (s : State) : (s.setSlot k w).st = s.st := rfl
@[simp] theorem State.setSlot_mem (k : Nibble) (w : Word) (s : State) : (s.setSlot k w).mem = s.mem := rfl
@[simp] theorem State.setSlot_fb (k : Nibble) (w : Word) (s : State) : (s.setSlot k w).fb = s.fb := rfl
@[simp] theorem State.setSlot_key (k : Nibble) (w : Word) (s : State) : (s.setSlot k w).key = s.key := rfl
@[simp] theorem State.setSlot_mode (k : Nibble) (w : Word) (s : State) : (s.setSlot k w).mode = s.mode := rfl
@[simp] theorem State.setSlot_kprev (k : Nibble) (w : Word) (s : State) : (s.setSlot k w).kprev = s.kprev := rfl
@[simp] theorem State.setSlot_draws (k : Nibble) (w : Word) (s : State) : (s.setSlot k w).draws = s.draws := rfl
@[simp] theorem State.setSlot_status (k : Nibble) (w : Word) (s : State) : (s.setSlot k w).status = s.status := rfl
@[simp] theorem State.setSlot_faultMark (k : Nibble) (w : Word) (s : State) : (s.setSlot k w).faultMark = s.faultMark := rfl
@[simp] theorem State.setSlot_live (k : Nibble) (w : Word) (s : State) : (s.setSlot k w).live = s.live := rfl
@[simp] theorem State.setSlot_schedule (k : Nibble) (w : Word) (s : State) : (s.setSlot k w).schedule = s.schedule := rfl
@[simp] theorem State.setSlot_readV (k : Nibble) (w : Word) (s : State) (y : Nibble) : (s.setSlot k w).readV y = s.readV y := rfl
@[simp] theorem State.setSlot_readByte (k : Nibble) (w : Word) (s : State) (a : Nat) : (s.setSlot k w).readByte a = s.readByte a := rfl
@[simp] theorem State.setSlot_pixel (k : Nibble) (w : Word) (s : State) (px : Fin 64) (py : Fin 32) : (s.setSlot k w).pixel px py = s.pixel px py := rfl
@[simp] theorem State.setSlot_keyDown (k : Nibble) (w : Word) (s : State) (j : Nibble) : (s.setSlot k w).keyDown j = s.keyDown j := rfl
@[simp] theorem State.setSlot_keyWasDown (k : Nibble) (w : Word) (s : State) (j : Nibble) : (s.setSlot k w).keyWasDown j = s.keyWasDown j := rfl

/-! ### complete -/

@[simp] theorem complete_v (s : State) : (complete s).v = s.v := rfl
@[simp] theorem complete_i (s : State) : (complete s).i = s.i := rfl
@[simp] theorem complete_pc (s : State) : (complete s).pc = s.pc := rfl
@[simp] theorem complete_sp (s : State) : (complete s).sp = s.sp := rfl
@[simp] theorem complete_stack (s : State) : (complete s).stack = s.stack := rfl
@[simp] theorem complete_dt (s : State) : (complete s).dt = s.dt := rfl
@[simp] theorem complete_st (s : State) : (complete s).st = s.st := rfl
@[simp] theorem complete_mem (s : State) : (complete s).mem = s.mem := rfl
@[simp] theorem complete_fb (s : State) : (complete s).fb = s.fb := rfl
@[simp] theorem complete_key (s : State) : (complete s).key = s.key := rfl
@[simp] theorem complete_mode (s : State) : (complete s).mode = s.mode := rfl
@[simp] theorem complete_kprev (s : State) : (complete s).kprev = s.kprev := rfl
@[simp] theorem complete_draws (s : State) : (complete s).draws = s.draws := rfl
@[simp] theorem complete_status (s : State) : (complete s).status = .ok := rfl
@[simp] theorem complete_faultMark (s : State) : (complete s).faultMark = s.faultMark := rfl
@[simp] theorem complete_live (s : State) : (complete s).live = s.live := rfl
@[simp] theorem complete_schedule (s : State) : (complete s).schedule = s.schedule := rfl
@[simp] theorem complete_readV (s : State) (y : Nibble) : (complete s).readV y = s.readV y := rfl
@[simp] theorem complete_slot (s : State) (j : Nibble) : (complete s).slot j = s.slot j := rfl
@[simp] theorem complete_readByte (s : State) (a : Nat) : (complete s).readByte a = s.readByte a := rfl
@[simp] theorem complete_pixel (s : State) (px : Fin 64) (py : Fin 32) : (complete s).pixel px py = s.pixel px py := rfl
@[simp] theorem complete_keyDown (s : State) (j : Nibble) : (complete s).keyDown j = s.keyDown j := rfl
@[simp] theorem complete_keyWasDown (s : State) (j : Nibble) : (complete s).keyWasDown j = s.keyWasDown j := rfl

/-! ### raise -/

@[simp] theorem raise_v (e : Status) (s : State) : (raise e s).v = s.v := rfl
@[simp] theorem raise_i (e : Status) (s : State) : (raise e s).i = s.i := rfl
@[simp] theorem raise_pc (e : Status) (s : State) : (raise e s).pc = s.pc := rfl
@[simp] theorem raise_sp (e : Status) (s : State) : (raise e s).sp = s.sp := rfl
@[simp] theorem raise_stack (e : Status) (s : State) : (raise e s).stack = s.stack := rfl
@[simp] theorem raise_dt (e : Status) (s : State) : (raise e s).dt = s.dt := rfl
@[simp] theorem raise_st (e : Status) (s : State) : (raise e s).st = s.st := rfl
@[simp] theorem raise_mem (e : Status) (s : State) : (raise e s).mem = s.mem := rfl
@[simp] theorem raise_fb (e : Status) (s : State) : (raise e s).fb = s.fb := rfl
@[simp] theorem raise_key (e : Status) (s : State) : (raise e s).key = s.key := rfl
@[simp] theorem raise_mode (e : Status) (s : State) : (raise e s).mode = s.mode := rfl
@[simp] theorem raise_kprev (e : Status) (s : State) : (raise e s).kprev = s.kprev := rfl
@[simp] theorem raise_draws (e : Status) (s : State) : (raise e s).draws = s.draws := rfl
@[simp] theorem raise_status (e : Status) (s : State) : (raise e s).status = e := rfl
@[simp] theorem raise_faultMark (e : Status) (s : State) : (raise e s).faultMark = true := rfl
@[simp] theorem raise_live (e : Status) (s : State) : (raise e s).live = s.live := rfl
@[simp] theorem raise_schedule (e : Status) (s : State) : (raise e s).schedule = s.schedule := rfl
@[simp] theorem raise_readV (e : Status) (s : State) (y : Nibble) : (raise e s).readV y = s.readV y := rfl
@[simp] theorem raise_slot (e : Status) (s : State) (j : Nibble) : (raise e s).slot j = s.slot j := rfl
@[simp] theorem raise_readByte (e : Status) (s : State) (a : Nat) : (raise e s).readByte a = s.readByte a := rfl
@[simp] theorem raise_pixel (e : Status) (s : State) (px : Fin 64) (py : Fin 32) : (raise e s).pixel px py = s.pixel px py := rfl
@[simp] theorem raise_keyDown (e : Status) (s : State) (j : Nibble) : (raise e s).keyDown j = s.keyDown j := rfl
@[simp] theorem raise_keyWasDown (e : Status) (s : State) (j : Nibble) : (raise e s).keyWasDown j = s.keyWasDown j := rfl

/-! ### Reading what an indexed update wrote -/

theorem State.readV_setV (x y : Nibble) (b : Byte) (s : State) :
    (s.setV x b).readV y = if y = x then b else s.readV y := by
  by_cases h : y = x
  · subst h; simp [State.readV]
  · have hne : x.toNat ≠ y.toNat := fun e => h (BitVec.eq_of_toNat_eq e).symm
    simp [State.readV, hne, h]

@[simp] theorem State.readV_setV_same (x : Nibble) (b : Byte) (s : State) : (s.setV x b).readV x = b := by
  simp [State.readV_setV]

theorem State.slot_setSlot (k j : Nibble) (w : Word) (s : State) :
    (s.setSlot k w).slot j = if j = k then w else s.slot j := by
  by_cases h : j = k
  · subst h; simp [State.slot]
  · have hne : k.toNat ≠ j.toNat := fun e => h (BitVec.eq_of_toNat_eq e).symm
    simp [State.slot, hne, h]

@[simp] theorem State.slot_setSlot_same (k : Nibble) (w : Word) (s : State) : (s.setSlot k w).slot k = w := by
  simp [State.slot_setSlot]

theorem FrameBuffer.get_set (fb : FrameBuffer) (x px : Fin 64) (y py : Fin 32) (b : Bool) :
    (FrameBuffer.set fb x y b).get px py = if px = x ∧ py = y then b else fb.get px py := by
  by_cases hx : px = x
  · subst hx
    by_cases hy : py = y
    · subst hy; simp [FrameBuffer.get, FrameBuffer.set]
    · have hne : y.val ≠ py.val := fun e => hy (Fin.ext e).symm
      simp [FrameBuffer.get, FrameBuffer.set, hne, hy]
  · have hne : x.val ≠ px.val := fun e => hx (Fin.ext e).symm
    simp [FrameBuffer.get, FrameBuffer.set, hne, hx]

@[simp] theorem FrameBuffer.get_blank (x : Fin 64) (y : Fin 32) : FrameBuffer.blank.get x y = false := by
  simp [FrameBuffer.get, FrameBuffer.blank]

end Sys2Proof.Machine
end

