-- ==== Sys2Proof/Laws/Ops.lean ====
section
/-! SUPPORT. For each shared operation, once, everything it can do; callers cite these and do not unfold it. -/

namespace Sys2Proof.Machine

/-! ### Ending an instruction -/

theorem conclude_next {s t : State} {a : Attempt State} (h : conclude s a = .next t) :
    (∃ u, a = .done u ∧ t = complete u) ∨ (∃ e, a = .raised e ∧ t = raise e s) := by
  cases a with
  | done u => exact .inl ⟨u, rfl, by simpa [conclude] using h.symm⟩
  | raised e => exact .inr ⟨e, rfl, by simpa [conclude] using h.symm⟩
  | broken f => simp [conclude] at h

@[simp] theorem conclude_done (s t : State) : conclude s (.done t) = .next (complete t) := rfl

@[simp] theorem conclude_raised (s : State) (e : Status) : conclude s (.raised e) = .next (raise e s) := rfl

@[simp] theorem conclude_broken (s : State) (f : Fault) : conclude s (.broken f) = .fault f := rfl

/-! ### The stack (R30, R31) -/

theorem push_cases (w : Word) (s : State) :
    (s.sp.toNat < 16 ∧ push w s = .done ((s.setSlot (BitVec.ofNat 4 s.sp.toNat) w).setSp (s.sp + 1))) ∨
    (s.sp.toNat = 16 ∧ push w s = .raised .stackOverflow) ∨
    (16 < s.sp.toNat ∧ push w s = .broken .stackPointerOutOfRange) := by
  unfold push
  split_ifs with h1 h2
  · exact .inl ⟨h1, rfl⟩
  · exact .inr (.inl ⟨h2, rfl⟩)
  · exact .inr (.inr ⟨by simp only [Config.stackDepth] at h1 h2; omega, rfl⟩)

theorem pop_cases (s : State) :
    (s.sp.toNat = 0 ∧ pop s = .raised .stackUnderflow) ∨
    (0 < s.sp.toNat ∧ s.sp.toNat ≤ 16 ∧
      pop s = .done (s.slot (BitVec.ofNat 4 (s.sp.toNat - 1)), s.setSp (s.sp - 1))) ∨
    (16 < s.sp.toNat ∧ pop s = .broken .stackPointerOutOfRange) := by
  unfold pop
  split_ifs with h1 h2
  · exact .inl ⟨h1, rfl⟩
  · exact .inr (.inl ⟨by omega, h2, rfl⟩)
  · exact .inr (.inr ⟨by simp only [Config.stackDepth] at h2; omega, rfl⟩)

/-! ### Memory blocks (R66, R69) -/

theorem blockInRange_iff (base len : Nat) :
    blockInRange base len = true ↔ len = 0 ∨ base + len ≤ 4096 := by
  simp [blockInRange]

theorem readBlock_cases (s : State) (base len : Nat) :
    ((len = 0 ∨ base + len ≤ 4096) ∧
      readBlock s base len = .done ((List.range len).map fun k => s.readByte (base + k))) ∨
    (0 < len ∧ 4096 < base + len ∧ readBlock s base len = .raised .memoryOutOfRange) := by
  unfold readBlock
  split_ifs with h
  · exact .inl ⟨(blockInRange_iff base len).1 h, rfl⟩
  · rw [blockInRange_iff] at h; exact .inr ⟨by omega, by omega, rfl⟩

theorem writeBlock_cases (s : State) (base : Nat) (bytes : List Byte) :
    ((bytes.length = 0 ∨ base + bytes.length ≤ 4096) ∧
      writeBlock s base bytes = .done (s.setMem (s.mem.writeAll base bytes))) ∨
    (0 < bytes.length ∧ 4096 < base + bytes.length ∧ writeBlock s base bytes = .raised .memoryOutOfRange) := by
  unfold writeBlock
  split_ifs with h
  · exact .inl ⟨(blockInRange_iff _ _).1 h, rfl⟩
  · rw [blockInRange_iff] at h; exact .inr ⟨by omega, by omega, rfl⟩

/-! ### Operand forms -/

theorem addressOf_toNat (nnn : Imm12) : (addressOf nnn).toNat = nnn.toNat := by
  have := nnn.isLt
  simp only [addressOf, BitVec.toNat_setWidth]; omega

theorem extended_toNat (b : Byte) : (extended b).toNat = b.toNat := by
  have := b.isLt
  simp only [extended, BitVec.toNat_setWidth]; omega

theorem maskIndex_toNat (w : Word) : (maskIndex w).toNat = w.toNat % 4096 := by
  simp only [maskIndex, BitVec.toNat_and]
  exact Nat.and_two_pow_sub_one_eq_mod w.toNat 12

theorem skipIf_cases (condition : Bool) (s : State) :
    (condition = true ∧ skipIf condition s = s.setPc (s.pc + 2#16)) ∨ (condition = false ∧ skipIf condition s = s) := by
  cases condition
  · exact .inr ⟨rfl, rfl⟩
  · exact .inl ⟨rfl, rfl⟩

@[simp] theorem registersUpTo_length (s : State) (x : Nibble) : (registersUpTo s x).length = x.toNat + 1 := by
  simp [registersUpTo, blockCount]

theorem registersUpTo_getElem (s : State) (x : Nibble) (k : Nat) (h : k < (registersUpTo s x).length) :
    (registersUpTo s x)[k] = s.readV (BitVec.ofNat 4 k) := by
  simp [registersUpTo]

theorem decimalDigits_toNat (b : Byte) :
    (decimalDigits b).map BitVec.toNat = [b.toNat / 100, b.toNat / 10 % 10, b.toNat % 10] := by
  simp [decimalDigits]

/-- Loading registers changes V alone. -/
theorem loadRegistersFrom_eq (k : Nat) (bs : List Byte) (s : State) :
    loadRegistersFrom k bs s = { s with v := (loadRegistersFrom k bs s).v } := by
  induction bs generalizing k s with
  | nil => rfl
  | cons b bs ih => rw [loadRegistersFrom, ih]; rfl

theorem loadRegistersFrom_readV (k : Nat) (bs : List Byte) (s : State) (x : Nibble) (hk : k + bs.length ≤ 16) :
    (loadRegistersFrom k bs s).readV x =
      if h : k ≤ x.toNat ∧ x.toNat < k + bs.length then bs[x.toNat - k]'(by omega) else s.readV x := by
  induction bs generalizing k s with
  | nil => rw [dif_neg (by simp only [List.length_nil]; omega)]; rfl
  | cons b bs ih =>
    simp only [List.length_cons] at hk ⊢
    rw [loadRegistersFrom, ih _ _ (by omega)]
    have hx := x.isLt
    by_cases hxk : x.toNat = k
    · have e : x = BitVec.ofNat 4 k := by
        apply BitVec.eq_of_toNat_eq; rw [BitVec.toNat_ofNat]; omega
      rw [dif_neg (by omega), dif_pos (by omega), State.readV_setV, if_pos e]
      simp only [hxk, Nat.sub_self, List.getElem_cons_zero]
    · have ne : x ≠ BitVec.ofNat 4 k := by
        intro e; apply hxk; rw [e, BitVec.toNat_ofNat]; omega
      by_cases hin : k + 1 ≤ x.toNat ∧ x.toNat < k + 1 + bs.length
      · rw [dif_pos hin, dif_pos (by omega)]
        have e : x.toNat - k = (x.toNat - (k + 1)) + 1 := by omega
        simp only [e, List.getElem_cons_succ]
      · rw [dif_neg hin, dif_neg (by omega), State.readV_setV, if_neg ne]

/-! ### Flags (R171) -/

theorem writeResultThenFlag_readV (x y : Nibble) (result : Byte) (flag : Bool) (s : State) :
    (writeResultThenFlag x result flag s).readV y =
      if y = vf then flagByte flag else if y = x then result else s.readV y := by
  simp only [writeResultThenFlag, writeFlag, State.readV_setV]

/-- Writing a result and a flag changes V alone. -/
theorem writeResultThenFlag_eq (x : Nibble) (result : Byte) (flag : Bool) (s : State) :
    writeResultThenFlag x result flag s = { s with v := (writeResultThenFlag x result flag s).v } := rfl

/-! ### Keypad (R231, R232, R240, R241) -/

theorem keyIdValid_iff (id : Byte) : keyIdValid id = true ↔ id.toNat ≤ 15 := by
  simp only [keyIdValid, Config.numKeys, decide_eq_true_eq]; omega

theorem keyOfId_toNat {id : Byte} (h : id.toNat ≤ 15) : (keyOfId id).toNat = id.toNat := by
  simp only [keyOfId, BitVec.toNat_setWidth]; omega

theorem State.keyDown_setKey (k j : Nibble) (pressed : Bool) (s : State) :
    (s.setKey k pressed).keyDown j = if j = k then pressed else s.keyDown j := by
  by_cases h : j = k
  · subst h; simp [State.keyDown, State.setKey]
  · have hne : k.toNat ≠ j.toNat := fun e => h (BitVec.eq_of_toNat_eq e).symm
    simp [State.keyDown, State.setKey, hne, h]

theorem skipOnKey_cases (x : Nibble) (level : Bool) (s : State) :
    ((s.readV x).toNat ≤ 15 ∧
      skipOnKey x level s = .done (skipIf (s.keyDown (keyOfId (s.readV x)) == level) s)) ∨
    (15 < (s.readV x).toNat ∧ skipOnKey x level s = .raised .invalidKeyIndex) := by
  unfold skipOnKey
  split_ifs with h
  · exact .inl ⟨(keyIdValid_iff _).1 h, rfl⟩
  · rw [keyIdValid_iff] at h; exact .inr ⟨by omega, rfl⟩

theorem setKeyEvent_cases (id : Byte) (pressed : Bool) (s : State) :
    (id.toNat ≤ 15 ∧ setKeyEvent id pressed s = complete (s.setKey (keyOfId id) pressed)) ∨
    (15 < id.toNat ∧ setKeyEvent id pressed s = raise .invalidKeyIndex s) := by
  unfold setKeyEvent
  split_ifs with h
  · exact .inl ⟨(keyIdValid_iff _).1 h, rfl⟩
  · rw [keyIdValid_iff] at h; exact .inr ⟨by omega, rfl⟩

theorem awaitStep_cases (x : Nibble) (s : State) :
    (pickKey s = none ∧ awaitStep x s = complete (s.setKprev s.key)) ∨
    (∃ k, pickKey s = some k ∧ awaitStep x s = complete ((s.setV x (k.setWidth 8)).setMode .running)) := by
  unfold awaitStep
  cases h : pickKey s with
  | none => exact .inl ⟨rfl, rfl⟩
  | some k => exact .inr ⟨k, rfl, rfl⟩

/-! ### INIT and the choice of the next event -/

theorem initEvent_cases (rom : List Byte) (s : State) :
    (rom.length ≤ 3584 ∧ initEvent rom s =
      ((State.reset.setMem (romCells Config.progBase rom)).setDraws s.draws).setSchedule s.schedule) ∨
    (3584 < rom.length ∧ initEvent rom s = (raise .initError s).setLive false) := by
  unfold initEvent romFits
  split_ifs with h
  · exact .inl ⟨by simpa [Config.maxRom] using h, rfl⟩
  · exact .inr ⟨by simpa [Config.maxRom] using h, rfl⟩

theorem fetch_cases (s : State) :
    (s.pc.toNat ≤ 0xFFE ∧ fetch s = .done [s.readByte s.pc.toNat, s.readByte (s.pc.toNat + 1)]) ∨
    (0xFFF ≤ s.pc.toNat ∧ fetch s = .raised .memoryOutOfRange) := by
  rcases readBlock_cases s s.pc.toNat 2 with ⟨h, e⟩ | ⟨_, h, e⟩
  · exact .inl ⟨by omega, by rw [fetch, e]; rfl⟩
  · exact .inr ⟨by omega, e⟩

/-- Everything a STEP in RUNNING can do (R122). -/
theorem runStep_cases (s : State) :
    (0xFFF ≤ s.pc.toNat ∧ runStep s = .next (raise .memoryOutOfRange s)) ∨
    (s.pc.toNat ≤ 0xFFE ∧
      ((∃ i, decodeBytes [s.readByte s.pc.toNat, s.readByte (s.pc.toNat + 1)] = .instr i ∧
          runStep s = exec i (advance s)) ∨
        runStep s = .next (raise .invalidOpcode (advance s)))) := by
  rcases fetch_cases s with ⟨h, e⟩ | ⟨h, e⟩
  · refine .inr ⟨h, ?_⟩
    simp only [runStep, e, executeFetched]
    cases hd : decodeBytes [s.readByte s.pc.toNat, s.readByte (s.pc.toNat + 1)] with
    | instr i => exact .inl ⟨i, rfl, rfl⟩
    | invalidOpcode w => exact .inr rfl
    | truncated => exact .inr rfl
  · exact .inl ⟨h, by simp only [runStep, e]⟩

/-- The next event is taken off the schedule, and the machine it acts on differs in the schedule alone. -/
theorem nextEvent_cases (s : State) :
    (s.schedule = [] ∧ nextEvent s = (.step, s)) ∨
    (∃ e rest, s.schedule = e :: rest ∧ nextEvent s = (e, s.setSchedule rest)) := by
  unfold nextEvent
  cases h : s.schedule with
  | nil => exact .inl ⟨rfl, rfl⟩
  | cons e rest => exact .inr ⟨e, rest, rfl, rfl⟩

end Sys2Proof.Machine
end

