-- ==== Sys2Proof/Laws/Frame.lean ====
section
/-! SUPPORT. The frame and the returned status of the shared endings of an instruction, once. -/

namespace Sys2Proof.Machine

/-- An error changes no piece of state (R275). -/
theorem frame_raise (e : Status) (s : State) : FrameExcept [] [] s (raise e s) :=
  ⟨fun _ _ => by simp, fun c _ => by cases c <;> simp [Unchanged]⟩

theorem returned_raise {e : Status} (s : State) (h : e ≠ .ok) : Returned e s (raise e s) := by
  simp [Returned, h]

/-- Completing an instruction whose effect left the sticky mark alone returns Ok. -/
theorem returned_complete {s u : State} (h : u.faultMark = s.faultMark) : Returned .ok s (complete u) := by
  simp [Returned, h]

/-- Completing adds nothing to what an instruction changed. -/
theorem frame_complete {regs : List Nibble} {parts : List Component} {s u : State} (h : FrameExcept regs parts s u) :
    FrameExcept regs parts s (complete u) :=
  ⟨fun x hx => by simpa using h.1 x hx, fun c hc => by have := h.2 c hc; cases c <;> simpa [Unchanged] using this⟩

/-- Loading registers leaves every piece of state but V. -/
theorem unchanged_loadRegistersFrom (c : Component) (k : Nat) (bs : List Byte) (s : State) :
    Unchanged c s (loadRegistersFrom k bs s) := by
  rw [loadRegistersFrom_eq]; cases c <;> simp only [Unchanged] <;> (intros; rfl)

/-- A frame may be widened. -/
theorem FrameExcept.mono {regs regs' : List Nibble} {parts parts' : List Component} {s t : State}
    (h : FrameExcept regs parts s t) (hr : regs ⊆ regs') (hp : parts ⊆ parts') : FrameExcept regs' parts' s t :=
  ⟨fun x hx => h.1 x fun m => hx (hr m), fun c hc => h.2 c fun m => hc (hp m)⟩

end Sys2Proof.Machine
end

