-- ==== Sys2Proof/Laws/PerInstr.lean ====
section
/-! SUPPORT. Per-instruction family `RowOfTable`: an instruction's operands fit their fields, and its word selects a row of
the opcode table (spec/30_encoding.md R96) that bears its mnemonic. -/

namespace Sys2Proof.Laws.RowOfTable

/-- The instruction is well formed and its word selects the table row of its mnemonic. -/
def Statement (i : Instr) : Prop :=
  i.wellFormed = true ∧ ∃ row ∈ opcodeTable, row.mnemonic = i.mnemonic ∧ row.selects (encode i) = true

theorem maskA (op : Nibble) (nnn : Imm12) : formatA op nnn &&& 0xF000#16 = formatA op 0#12 := by
  refine BitVec.eq_of_getLsbD_eq fun i hi => ?_
  simp only [formatA, BitVec.getLsbD_and, BitVec.getLsbD_append]; interval_cases i <;> simp

theorem maskXI (op x : Nibble) (nn : Byte) : formatXI op x nn &&& 0xF000#16 = formatXI op 0#4 0#8 := by
  refine BitVec.eq_of_getLsbD_eq fun i hi => ?_
  simp only [formatXI, BitVec.getLsbD_and, BitVec.getLsbD_append]; interval_cases i <;> simp

theorem maskXS (op x : Nibble) (nn : Byte) : formatXI op x nn &&& 0xF0FF#16 = formatXI op 0#4 nn := by
  refine BitVec.eq_of_getLsbD_eq fun i hi => ?_
  simp only [formatXI, BitVec.getLsbD_and, BitVec.getLsbD_append]; interval_cases i <;> simp

theorem maskXY (op x y n : Nibble) : formatXYN op x y n &&& 0xF00F#16 = formatXYN op 0#4 0#4 n := by
  refine BitVec.eq_of_getLsbD_eq fun i hi => ?_
  simp only [formatXYN, BitVec.getLsbD_and, BitVec.getLsbD_append]; interval_cases i <;> simp

theorem maskXYN (op x y n : Nibble) : formatXYN op x y n &&& 0xF000#16 = formatXYN op 0#4 0#4 0#4 := by
  refine BitVec.eq_of_getLsbD_eq fun i hi => ?_
  simp only [formatXYN, BitVec.getLsbD_and, BitVec.getLsbD_append]; interval_cases i <;> simp

/-- A list of operands fits when each of them does. -/
theorem fits_cons {width value : Nat} {rest : List (Nat × Nat)} (h : value < 2 ^ width) (hr : operandsFit rest = true) :
    operandsFit ((width, value) :: rest) = true := by
  simp only [operandsFit, List.all_cons, Bool.and_eq_true]
  exact ⟨decide_eq_true h, hr⟩

theorem fitsA (nnn : Imm12) : operandsFit [(12, nnn.toNat)] = true := fits_cons nnn.isLt rfl

theorem fitsX (x : Nibble) : operandsFit [(4, x.toNat)] = true := fits_cons x.isLt rfl

theorem fitsXI (x : Nibble) (nn : Byte) : operandsFit [(4, x.toNat), (8, nn.toNat)] = true :=
  fits_cons x.isLt (fits_cons nn.isLt rfl)

theorem fitsXY (x y : Nibble) : operandsFit [(4, x.toNat), (4, y.toNat)] = true := fits_cons x.isLt (fitsX y)

theorem fitsXYN (x y n : Nibble) : operandsFit [(4, x.toNat), (4, y.toNat), (4, n.toNat)] = true :=
  fits_cons x.isLt (fitsXY y n)

/-- A row of the table is selected by a word whose masked value is the row's pattern. -/
theorem selects_of {row : OpcodeRow} {w : Word} (h : w &&& row.mask = row.pattern) : row.selects w = true := by
  simp [OpcodeRow.selects, h]

theorem cls : Statement .cls := ⟨rfl, ⟨"CLS", 0x00E0#16, 0xFFFF#16⟩, by decide, rfl, by decide⟩
theorem ret : Statement .ret := ⟨rfl, ⟨"RET", 0x00EE#16, 0xFFFF#16⟩, by decide, rfl, by decide⟩
theorem jp (nnn : Imm12) : Statement (.jp nnn) :=
  ⟨fitsA nnn, ⟨"JP", 0x1000#16, 0xF000#16⟩, by decide, rfl, selects_of (maskA _ nnn)⟩
theorem call (nnn : Imm12) : Statement (.call nnn) :=
  ⟨fitsA nnn, ⟨"CALL", 0x2000#16, 0xF000#16⟩, by decide, rfl, selects_of (maskA _ nnn)⟩
theorem seVN (x : Nibble) (nn : Byte) : Statement (.seVN x nn) :=
  ⟨fitsXI x nn, ⟨"SE_VN", 0x3000#16, 0xF000#16⟩, by decide, rfl, selects_of (maskXI _ x nn)⟩
theorem sneVN (x : Nibble) (nn : Byte) : Statement (.sneVN x nn) :=
  ⟨fitsXI x nn, ⟨"SNE_VN", 0x4000#16, 0xF000#16⟩, by decide, rfl, selects_of (maskXI _ x nn)⟩
theorem seVV (x y : Nibble) : Statement (.seVV x y) :=
  ⟨fitsXY x y, ⟨"SE_VV", 0x5000#16, 0xF00F#16⟩, by decide, rfl, selects_of (maskXY _ x y _)⟩
theorem ldVN (x : Nibble) (nn : Byte) : Statement (.ldVN x nn) :=
  ⟨fitsXI x nn, ⟨"LD_VN", 0x6000#16, 0xF000#16⟩, by decide, rfl, selects_of (maskXI _ x nn)⟩
theorem addVN (x : Nibble) (nn : Byte) : Statement (.addVN x nn) :=
  ⟨fitsXI x nn, ⟨"ADD_VN", 0x7000#16, 0xF000#16⟩, by decide, rfl, selects_of (maskXI _ x nn)⟩
theorem ldVV (x y : Nibble) : Statement (.ldVV x y) :=
  ⟨fitsXY x y, ⟨"LD_VV", 0x8000#16, 0xF00F#16⟩, by decide, rfl, selects_of (maskXY _ x y _)⟩
theorem orVV (x y : Nibble) : Statement (.orVV x y) :=
  ⟨fitsXY x y, ⟨"OR", 0x8001#16, 0xF00F#16⟩, by decide, rfl, selects_of (maskXY _ x y _)⟩
theorem andVV (x y : Nibble) : Statement (.andVV x y) :=
  ⟨fitsXY x y, ⟨"AND", 0x8002#16, 0xF00F#16⟩, by decide, rfl, selects_of (maskXY _ x y _)⟩
theorem xorVV (x y : Nibble) : Statement (.xorVV x y) :=
  ⟨fitsXY x y, ⟨"XOR", 0x8003#16, 0xF00F#16⟩, by decide, rfl, selects_of (maskXY _ x y _)⟩
theorem addVV (x y : Nibble) : Statement (.addVV x y) :=
  ⟨fitsXY x y, ⟨"ADD_VV", 0x8004#16, 0xF00F#16⟩, by decide, rfl, selects_of (maskXY _ x y _)⟩
theorem sub (x y : Nibble) : Statement (.sub x y) :=
  ⟨fitsXY x y, ⟨"SUB", 0x8005#16, 0xF00F#16⟩, by decide, rfl, selects_of (maskXY _ x y _)⟩
theorem shr (x y : Nibble) : Statement (.shr x y) :=
  ⟨fitsXY x y, ⟨"SHR", 0x8006#16, 0xF00F#16⟩, by decide, rfl, selects_of (maskXY _ x y _)⟩
theorem subn (x y : Nibble) : Statement (.subn x y) :=
  ⟨fitsXY x y, ⟨"SUBN", 0x8007#16, 0xF00F#16⟩, by decide, rfl, selects_of (maskXY _ x y _)⟩
theorem shl (x y : Nibble) : Statement (.shl x y) :=
  ⟨fitsXY x y, ⟨"SHL", 0x800E#16, 0xF00F#16⟩, by decide, rfl, selects_of (maskXY _ x y _)⟩
theorem sneVV (x y : Nibble) : Statement (.sneVV x y) :=
  ⟨fitsXY x y, ⟨"SNE_VV", 0x9000#16, 0xF00F#16⟩, by decide, rfl, selects_of (maskXY _ x y _)⟩
theorem ldI (nnn : Imm12) : Statement (.ldI nnn) :=
  ⟨fitsA nnn, ⟨"LD_I", 0xA000#16, 0xF000#16⟩, by decide, rfl, selects_of (maskA _ nnn)⟩
theorem jpV0 (nnn : Imm12) : Statement (.jpV0 nnn) :=
  ⟨fitsA nnn, ⟨"JP_V0", 0xB000#16, 0xF000#16⟩, by decide, rfl, selects_of (maskA _ nnn)⟩
theorem rnd (x : Nibble) (nn : Byte) : Statement (.rnd x nn) :=
  ⟨fitsXI x nn, ⟨"RND", 0xC000#16, 0xF000#16⟩, by decide, rfl, selects_of (maskXI _ x nn)⟩
theorem drw (x y n : Nibble) : Statement (.drw x y n) :=
  ⟨fitsXYN x y n, ⟨"DRW", 0xD000#16, 0xF000#16⟩, by decide, rfl, selects_of (maskXYN _ x y n)⟩
theorem skp (x : Nibble) : Statement (.skp x) :=
  ⟨fitsX x, ⟨"SKP", 0xE09E#16, 0xF0FF#16⟩, by decide, rfl, selects_of (maskXS _ x _)⟩
theorem sknp (x : Nibble) : Statement (.sknp x) :=
  ⟨fitsX x, ⟨"SKNP", 0xE0A1#16, 0xF0FF#16⟩, by decide, rfl, selects_of (maskXS _ x _)⟩
theorem ldVDT (x : Nibble) : Statement (.ldVDT x) :=
  ⟨fitsX x, ⟨"LD_V_DT", 0xF007#16, 0xF0FF#16⟩, by decide, rfl, selects_of (maskXS _ x _)⟩
theorem ldVK (x : Nibble) : Statement (.ldVK x) :=
  ⟨fitsX x, ⟨"LD_V_K", 0xF00A#16, 0xF0FF#16⟩, by decide, rfl, selects_of (maskXS _ x _)⟩
theorem ldDTV (x : Nibble) : Statement (.ldDTV x) :=
  ⟨fitsX x, ⟨"LD_DT_V", 0xF015#16, 0xF0FF#16⟩, by decide, rfl, selects_of (maskXS _ x _)⟩
theorem ldSTV (x : Nibble) : Statement (.ldSTV x) :=
  ⟨fitsX x, ⟨"LD_ST_V", 0xF018#16, 0xF0FF#16⟩, by decide, rfl, selects_of (maskXS _ x _)⟩
theorem addIV (x : Nibble) : Statement (.addIV x) :=
  ⟨fitsX x, ⟨"ADD_I_V", 0xF01E#16, 0xF0FF#16⟩, by decide, rfl, selects_of (maskXS _ x _)⟩
theorem ldFV (x : Nibble) : Statement (.ldFV x) :=
  ⟨fitsX x, ⟨"LD_F_V", 0xF029#16, 0xF0FF#16⟩, by decide, rfl, selects_of (maskXS _ x _)⟩
theorem ldBV (x : Nibble) : Statement (.ldBV x) :=
  ⟨fitsX x, ⟨"LD_B_V", 0xF033#16, 0xF0FF#16⟩, by decide, rfl, selects_of (maskXS _ x _)⟩
theorem stRegs (x : Nibble) : Statement (.stRegs x) :=
  ⟨fitsX x, ⟨"ST_REGS", 0xF055#16, 0xF0FF#16⟩, by decide, rfl, selects_of (maskXS _ x _)⟩
theorem ldRegs (x : Nibble) : Statement (.ldRegs x) :=
  ⟨fitsX x, ⟨"LD_REGS", 0xF065#16, 0xF0FF#16⟩, by decide, rfl, selects_of (maskXS _ x _)⟩

end Sys2Proof.Laws.RowOfTable
end

