-- ==== Sys2Proof/Tests/Slice0.lean ====
section
/-! SUPPORT. Tests of the model against spec/95_test_vectors.md (T, S and Q numbers are its own) and against words written
out from spec/30_encoding.md R96; then a witness for every hypothesis of Certificates/Slice0/Obligations.lean. -/

namespace Sys2Proof.Tests

open Sys2Proof Sys2Proof.Machine

/-! ### WellFormed: a value too wide for its field is refused (R91) -/

theorem test_wellFormed_refuses_register_16 : operandsFit [(4, 16), (8, 0)] = false := by decide

theorem test_wellFormed_refuses_second_register_16 : operandsFit [(4, 0), (4, 16)] = false := by decide

theorem test_wellFormed_refuses_row_count_16 : operandsFit [(4, 0), (4, 0), (4, 16)] = false := by decide

theorem test_wellFormed_refuses_byte_256 : operandsFit [(4, 0), (8, 256)] = false := by decide

theorem test_wellFormed_refuses_address_4096 : operandsFit [(12, 4096)] = false := by decide

theorem test_wellFormed_accepts_the_widest : (Instr.drw 0xF#4 0xF#4 0xF#4).wellFormed = true := by decide

/-! ### Decoding: one word a row, written out from the pattern of R96 -/

theorem test_decode_flow :
    decode 0x00E0#16 = .instr .cls ∧ decode 0x00EE#16 = .instr .ret ∧ decode 0x1234#16 = .instr (.jp 0x234#12) ∧
    decode 0x2300#16 = .instr (.call 0x300#12) ∧ decode 0x332A#16 = .instr (.seVN 0x3#4 0x2A#8) ∧
    decode 0x432A#16 = .instr (.sneVN 0x3#4 0x2A#8) ∧ decode 0x5120#16 = .instr (.seVV 0x1#4 0x2#4) ∧
    decode 0x9120#16 = .instr (.sneVV 0x1#4 0x2#4) ∧ decode 0xB2FF#16 = .instr (.jpV0 0x2FF#12) := by decide

theorem test_decode_arithmetic :
    decode 0x6A2F#16 = .instr (.ldVN 0xA#4 0x2F#8) ∧ decode 0x7101#16 = .instr (.addVN 0x1#4 0x01#8) ∧
    decode 0x8120#16 = .instr (.ldVV 0x1#4 0x2#4) ∧ decode 0x8121#16 = .instr (.orVV 0x1#4 0x2#4) ∧
    decode 0x8122#16 = .instr (.andVV 0x1#4 0x2#4) ∧ decode 0x8123#16 = .instr (.xorVV 0x1#4 0x2#4) ∧
    decode 0x8F14#16 = .instr (.addVV 0xF#4 0x1#4) ∧ decode 0x81F5#16 = .instr (.sub 0x1#4 0xF#4) ∧
    decode 0x8126#16 = .instr (.shr 0x1#4 0x2#4) ∧ decode 0x8127#16 = .instr (.subn 0x1#4 0x2#4) ∧
    decode 0x812E#16 = .instr (.shl 0x1#4 0x2#4) ∧ decode 0xC30F#16 = .instr (.rnd 0x3#4 0x0F#8) := by decide

theorem test_decode_index_and_display :
    decode 0xA20A#16 = .instr (.ldI 0x20A#12) ∧ decode 0xF21E#16 = .instr (.addIV 0x2#4) ∧
    decode 0xF429#16 = .instr (.ldFV 0x4#4) ∧ decode 0xF533#16 = .instr (.ldBV 0x5#4) ∧
    decode 0xF255#16 = .instr (.stRegs 0x2#4) ∧ decode 0xF265#16 = .instr (.ldRegs 0x2#4) ∧
    decode 0xD125#16 = .instr (.drw 0x1#4 0x2#4 0x5#4) := by decide

theorem test_decode_keypad_and_timers :
    decode 0xE29E#16 = .instr (.skp 0x2#4) ∧ decode 0xE2A1#16 = .instr (.sknp 0x2#4) ∧
    decode 0xF30A#16 = .instr (.ldVK 0x3#4) ∧ decode 0xF307#16 = .instr (.ldVDT 0x3#4) ∧
    decode 0xF315#16 = .instr (.ldDTV 0x3#4) ∧ decode 0xF318#16 = .instr (.ldSTV 0x3#4) := by decide

/-- T18, T21, T70, T71, T124, T130 to T137. -/
theorem test_decode_rejects :
    [0x5121#16, 0x9125#16, 0x8128#16, 0x812F#16, 0xE29F#16, 0xF308#16, 0x0000#16, 0x00E1#16, 0x0123#16, 0x00FF#16,
     0xF075#16, 0xE000#16, 0xFFFF#16].all (fun w => decode w == .invalidOpcode w) = true := by decide

/-- R63, R90: the high byte is at the lower address, and two bytes are needed. -/
theorem test_decode_bytes :
    decodeBytes [0x6A#8, 0x77#8, 0x12#8] = .instr (.ldVN 0xA#4 0x77#8) ∧ decodeBytes [0x6A#8] = .truncated ∧
    encodeBytes (.ldVN 0xA#4 0x77#8) = [0x6A#8, 0x77#8] := by decide

theorem test_decodeTableWord :
    decodeTableWord 16 0x8126 = some (.shr 0x1#4 0x2#4) ∧ decodeTableWord 16 0x8128 = none := by decide

/-- The rows of R96 are pairwise disjoint: two masks agree on some bit on which the patterns differ. -/
theorem test_table_disjoint :
    opcodeTable.Pairwise (fun a b => a.pattern &&& b.mask ≠ b.pattern &&& a.mask) := by decide

/-! ### One step of one instruction -/

/-- What f sees after one step of s. -/
def seen {α : Type} (s : State) (f : State → α) : Option α :=
  match step s with
  | .next t => some (f t)
  | .fault _ => none
  | .refused _ => none

/-- What f sees after the word w is fetched and run on s. -/
def after {α : Type} (w : Nat) (s : State) (f : State → α) : Option α := seen (s.withFetchWord 16 w) f

/-- The reset state with two registers set. -/
def with2 (x : Nibble) (a : Byte) (y : Nibble) (b : Byte) : State := (State.reset.setV x a).setV y b

/-- The reset state with I set and one byte in memory. -/
def withByte (index : Word) (a : Nat) (b : Byte) : State :=
  (State.reset.setI index).setMem (State.reset.mem.write a b)

/-- V1, VF and the status. -/
def v1vf (t : State) : Byte × Byte × Status := (t.readV 0x1#4, t.readV vf, t.status)

/-- PC and the status. -/
def pcStatus (t : State) : Word × Status := (t.pc, t.status)

/-- T100. -/
theorem test_cls : after 0x00E0 (State.reset.setFb (State.reset.fb.set 63 31 true)) (fun t => t.pixel 63 31) =
    some false := by decide

/-- T3. -/
theorem test_ret_from_full_stack : after 0x00EE ((State.reset.setSp 16#8).setSlot 0xF#4 0x0220#16)
    (fun t => (t.pc, t.sp)) = some (0x0220#16, 15#8) := by decide

/-- T2, fetched at 0x200. -/
theorem test_ret_underflow : after 0x00EE State.reset pcStatus = some (0x0202#16, .stackUnderflow) := by decide

/-- T4. -/
theorem test_jp : after 0x1234 State.reset pcStatus = some (0x0234#16, .ok) := by decide

/-- T9. -/
theorem test_call_last_slot : after 0x2300 ((State.reset.setSp 15#8).setPc 0x02F0#16)
    (fun t => (t.pc, t.sp, t.slot 0xF#4)) = some (0x0300#16, 16#8, 0x02F2#16) := by decide

/-- T10. -/
theorem test_call_overflow : after 0x2300 ((State.reset.setSp 16#8).setPc 0x02F0#16)
    (fun t => (t.pc, t.sp, t.status)) = some (0x02F2#16, 16#8, .stackOverflow) := by decide

/-- T11. -/
theorem test_seVN_skips : after 0x332A (State.reset.setV 0x3#4 0x2A#8) pcStatus = some (0x0204#16, .ok) := by decide

/-- T25. -/
theorem test_seVN_skips_past_the_top : after 0x3F01 ((State.reset.setV 0xF#4 0x01#8).setPc 0x0FFC#16) pcStatus =
    some (0x1000#16, .ok) := by decide

/-- T13. -/
theorem test_sneVN_stays : after 0x432A (State.reset.setV 0x3#4 0x2A#8) pcStatus = some (0x0202#16, .ok) := by decide

/-- T16. -/
theorem test_seVV_stays : after 0x5120 (with2 0x1#4 7#8 0x2#4 8#8) pcStatus = some (0x0202#16, .ok) := by decide

/-- T19. -/
theorem test_sneVV_skips : after 0x9120 (with2 0x1#4 7#8 0x2#4 8#8) pcStatus = some (0x0204#16, .ok) := by decide

/-- T23. -/
theorem test_jpV0_is_not_reduced : after 0xBFFF (State.reset.setV 0x0#4 0xFF#8) pcStatus = some (0x10FE#16, .ok) := by
  decide

/-- T26. -/
theorem test_ldVN : after 0x6A2F State.reset (fun t => t.readV 0xA#4) = some 0x2F#8 := by decide

/-- T28 (S4). -/
theorem test_addVN_wraps : after 0x7101 (with2 0x1#4 0xFF#8 vf 7#8) v1vf = some (0#8, 7#8, .ok) := by decide

/-- T32. -/
theorem test_ldVV : after 0x8120 (with2 0x1#4 1#8 0x2#4 0x5A#8) v1vf = some (0x5A#8, 0#8, .ok) := by decide

/-- T33. -/
theorem test_orVV : after 0x8121 ((with2 0x1#4 0xF0#8 0x2#4 0x0F#8).setV vf 9#8) v1vf = some (0xFF#8, 9#8, .ok) := by
  decide

/-- T34. -/
theorem test_andVV : after 0x8122 ((with2 0x1#4 0xF0#8 0x2#4 0x3C#8).setV vf 9#8) v1vf = some (0x30#8, 9#8, .ok) := by
  decide

/-- T35. -/
theorem test_xorVV : after 0x8123 ((with2 0x1#4 0xF0#8 0x2#4 0x3C#8).setV vf 9#8) v1vf = some (0xCC#8, 9#8, .ok) := by
  decide

/-- T39. -/
theorem test_addVV_255_has_no_carry : after 0x8124 (with2 0x1#4 0xFF#8 0x2#4 0#8) v1vf = some (0xFF#8, 0#8, .ok) := by
  decide

/-- T43. -/
theorem test_addVV_flag_survives : after 0x8F14 (with2 vf 0xF0#8 0x1#4 0x20#8) v1vf = some (0x20#8, 1#8, .ok) := by
  decide

/-- T47. -/
theorem test_sub_borrow : after 0x8125 (with2 0x1#4 3#8 0x2#4 5#8) v1vf = some (0xFE#8, 0#8, .ok) := by decide

/-- T53. -/
theorem test_sub_old_vf_is_subtrahend : after 0x81F5 (with2 vf 3#8 0x1#4 5#8) v1vf = some (2#8, 1#8, .ok) := by decide

/-- T54. -/
theorem test_shr_ignores_vy : after 0x8126 (with2 0x1#4 5#8 0x2#4 0xAA#8) v1vf = some (2#8, 1#8, .ok) := by decide

/-- T61. -/
theorem test_subn_borrow : after 0x8127 (with2 0x1#4 5#8 0x2#4 3#8) v1vf = some (0xFE#8, 0#8, .ok) := by decide

/-- T65. -/
theorem test_shl_ignores_vy : after 0x812E (with2 0x1#4 0x81#8 0x2#4 0xAA#8) v1vf = some (2#8, 1#8, .ok) := by decide

/-- T68. -/
theorem test_shl_vf : after 0x8F0E (State.reset.setV vf 0x80#8) (fun t => t.readV vf) = some 1#8 := by decide

/-- T73, for every draw: a mask of 0 gives 0. -/
theorem test_rnd_mask_zero : after 0xC300 (State.reset.setV 0x3#4 0x55#8) (fun t => t.readV 0x3#4 == 0#8) = some true := by
  show some (Config.rnd 0 &&& 0x00#8 == 0#8) = some true
  simp

/-- T76. -/
theorem test_ldI : after 0xAFFF State.reset (fun t => t.i) = some 0x0FFF#16 := by decide

/-- T78. -/
theorem test_addIV_wraps : after 0xF21E ((with2 0x2#4 1#8 vf 5#8).setI 0x0FFF#16) (fun t => (t.i, t.readV vf)) =
    some (0#16, 5#8) := by decide

/-- T84. -/
theorem test_ldFV_all_eight_bits : after 0xF429 (State.reset.setV 0x4#4 0xFF#8) (fun t => t.i) = some 0x04FB#16 := by
  decide

/-- T85 (S6). -/
theorem test_ldBV : after 0xF533 ((State.reset.setV 0x5#4 156#8).setI 0x0300#16)
    (fun t => [t.readByte 0x300, t.readByte 0x301, t.readByte 0x302]) = some [1#8, 5#8, 6#8] := by decide

/-- T91. -/
theorem test_ldBV_past_the_top : after 0xF533 ((State.reset.setV 0x5#4 0x63#8).setI 0x0FFE#16)
    (fun t => (t.readByte 0xFFE, t.readByte 0xFFF, t.status)) = some (0#8, 0#8, .memoryOutOfRange) := by decide

/-- T93. -/
theorem test_stRegs_last_byte : after 0xF055 ((State.reset.setV 0x0#4 0x77#8).setI 0x0FFF#16)
    (fun t => (t.readByte 0xFFF, t.i, t.status)) = some (0x77#8, 0x0FFF#16, .ok) := by decide

/-- T94. -/
theorem test_stRegs_all_or_nothing : after 0xF155 ((with2 0x0#4 0x77#8 0x1#4 0x88#8).setI 0x0FFF#16)
    (fun t => (t.readByte 0xFFF, t.status)) = some (0#8, .memoryOutOfRange) := by decide

/-- T98, the source's own glyph 0. -/
theorem test_ldRegs_font : after 0xF465 State.reset (fun t => [t.readV 0x0#4, t.readV 0x1#4, t.readV 0x4#4, t.readV 0x5#4]) =
    some [0xF0#8, 0x90#8, 0xF0#8, 0#8] := by decide

/-- T99. -/
theorem test_ldRegs_past_the_top : after 0xF165 ((with2 0x0#4 1#8 0x1#4 2#8).setI 0x0FFF#16)
    (fun t => (t.readV 0x0#4, t.readV 0x1#4, t.status)) = some (1#8, 2#8, .memoryOutOfRange) := by decide

/-- T108: both edges wrap. -/
theorem test_drw_wraps : after 0xD121 ((withByte 0x0300#16 0x300 0xC0#8).setV 0x1#4 0xFF#8 |>.setV 0x2#4 0xFF#8)
    (fun t => (t.pixel 63 31, t.pixel 0 31, t.pixel 1 31, t.readV vf)) = some (true, true, false, 0#8) := by decide

/-- T113: the old VF is a coordinate, and the collision is found. -/
theorem test_drw_collides : after 0xDF01
    (((withByte 0x0300#16 0x300 0x80#8).setV vf 2#8 |>.setV 0x0#4 1#8).setFb (State.reset.fb.set 2 1 true))
    (fun t => (t.pixel 2 1, t.readV vf)) = some (false, 1#8) := by decide

/-- T118. -/
theorem test_skp_key_15 : after 0xE29E ((State.reset.setV 0x2#4 15#8).setKey 0xF#4 true) pcStatus =
    some (0x0204#16, .ok) := by decide

/-- T120. -/
theorem test_skp_rejects_0x15 : after 0xE29E ((State.reset.setV 0x2#4 0x15#8).setKey 0x5#4 true) pcStatus =
    some (0x0202#16, .invalidKeyIndex) := by decide

/-- T121. -/
theorem test_sknp : after 0xE2A1 (State.reset.setV 0x2#4 5#8) pcStatus = some (0x0204#16, .ok) := by decide

/-- T125. -/
theorem test_ldVK : after 0xF30A (State.reset.setV 0x3#4 0x77#8) (fun t => (t.mode, t.readV 0x3#4, t.pc)) =
    some (.awaitingKey 0x3#4, 0x77#8, 0x0202#16) := by decide

/-- T126. -/
theorem test_ldVDT : after 0xF307 (State.reset.setDt 0x2C#8) (fun t => t.readV 0x3#4) = some 0x2C#8 := by decide

/-- T127. -/
theorem test_ldDTV : after 0xF315 (State.reset.setV 0x3#4 0x3C#8) (fun t => (t.dt, t.st)) = some (0x3C#8, 0#8) := by
  decide

/-- T128. -/
theorem test_ldSTV : after 0xF318 (State.reset.setV 0x3#4 5#8) (fun t => (t.st, t.dt, tone t)) =
    some (5#8, 0#8, some true) := by decide

/-- T131: reset memory holds the invalid word 0x0000 at 0x200. -/
theorem test_invalid_word : seen State.reset (fun t => t) =
    some (((State.reset.setPc 0x0202#16).setStatus .invalidOpcode).setFaultMark true) := by decide

/-! ### One event -/

/-- INIT with an empty ROM is the reset state (R41). -/
theorem test_init_empty_is_reset :
    seen (((State.reset.setPc 0x0333#16).setV 0x4#4 9#8).setSchedule [.init []]) (fun t => t) = some State.reset := by
  decide

/-- R310: the ROM lies at 0x200. -/
theorem test_init_places_rom : seen (State.reset.setSchedule [.init [0x60#8, 0x05#8]])
    (fun t => (t.readByte 0x1FF, t.readByte 0x200, t.readByte 0x201)) = some (0#8, 0x60#8, 0x05#8) := by decide

/-- The TICK vectors of part 2.6: (2, 0), (255, 1) and (0, 200). -/
theorem test_tick :
    [(2#8, 0#8), (255#8, 1#8), (0#8, 200#8)].map (fun p =>
      seen (((State.reset.setDt p.1).setSt p.2).setSchedule [.tick]) (fun t => (t.dt, t.st))) =
    [some (1#8, 0#8), some (254#8, 0#8), some (0#8, 199#8)] := by decide

/-- Q3 line 5. -/
theorem test_setKey_rejects_16 : seen (State.reset.setSchedule [.setKey 0x10#8 true])
    (fun t => (t.key, t.status)) = some (State.reset.key, .invalidKeyIndex) := by decide

/-- A running wait of FX0A on V5 at 0x202. -/
def waiting : State := (State.reset.setMode (.awaitingKey 0x5#4)).setPc 0x0202#16

/-- Q1 line 6. -/
theorem test_wait_resumes : seen (waiting.setKey 0x3#4 true) (fun t => (t.readV 0x5#4, t.mode, t.pc)) =
    some (3#8, .running, 0x0202#16) := by decide

/-- Q2 line 8: the lowest key wins. -/
theorem test_wait_lowest_key : seen ((waiting.setKey 0x7#4 true).setKey 0x2#4 true) (fun t => t.readV 0x5#4) =
    some 2#8 := by decide

/-- Q2 line 3: a key held since the last sample is no transition. -/
theorem test_wait_held_key : seen ((waiting.setKey 0x7#4 true).setKprev (waiting.setKey 0x7#4 true).key)
    (fun t => (t.mode, t.readV 0x5#4)) = some (.awaitingKey 0x5#4, 0#8) := by decide

/-- Q6: a fetch at 0xFFF fails and PC stays. -/
theorem test_fetch_at_the_top : seen (State.reset.setPc 0x0FFF#16) pcStatus = some (0x0FFF#16, .memoryOutOfRange) := by
  decide

/-- Q6: the last fetch is at 0xFFE. -/
theorem test_fetch_last : after 0x6001 (State.reset.setPc 0x0FFE#16) (fun t => (t.readV 0x0#4, t.pc)) =
    some (1#8, 0x1000#16) := by decide

/-! ### Witnesses: the hypotheses of each obligation met together, each clause at its boundary

A statement whose hypotheses only bind values has none here. `due` is the state itself where no event is scheduled. -/

/-- Both ways a STEP can be due. -/
theorem witness_StepDue : StepDue State.reset State.reset ∧
    StepDue (State.reset.setSchedule [.step]) (State.reset.setSchedule []) :=
  ⟨.inl ⟨rfl, rfl⟩, .inr ⟨[], rfl, rfl⟩⟩

/-- A ROM of n bytes. -/
def romOf (n : Nat) : List Byte := List.replicate n 1#8

theorem romOf_length (n : Nat) : (romOf n).length = n := List.length_replicate

/-- The longest ROM, its last byte, and the boundary addresses of the other clauses. -/
theorem witness_InitLoadsRomAndResetsTheMachine :
    (State.reset.setSchedule [.init (romOf 3584)]).schedule = .init (romOf 3584) :: [] ∧
    (romOf 3584).length ≤ 3584 ∧ 3583 < (romOf 3584).length ∧ 0x04F < 0x050 ∧
    (0x050 ≤ 0x1FF ∧ 0x1FF < 0x200) ∧ (0x050 ≤ 0x1000 ∧ 0x200 + (romOf 3584).length ≤ 0x1000) := by
  rw [romOf_length]
  exact ⟨rfl, by decide⟩

theorem witness_FailedInitLeavesNoMachineToStep :
    (State.reset.setSchedule [.init (romOf 3585)]).schedule = .init (romOf 3585) :: [] ∧
    3584 < (romOf 3585).length ∧ (State.reset.setLive false).live = false ∧
    (∀ rom rest, (State.reset.setLive false).schedule ≠ .init rom :: rest) := by
  refine ⟨rfl, by rw [romOf_length]; decide, rfl, fun _ _ h => ?_⟩
  cases h

/-- The word 0x6A77 of Q7 at the odd address 0x203. -/
def oddWord : State :=
  (State.reset.setMem ((State.reset.mem.write 0x203 0x6A#8).write 0x204 0x77#8)).setPc 0x0203#16

/-- At an odd PC, and at the last PC that allows a fetch. -/
theorem witness_StepRunsTheDecodedInstruction :
    (StepDue oddWord oddWord ∧ oddWord.live = true ∧ oddWord.mode = .running ∧ oddWord.pc.toNat ≤ 0xFFE ∧
      decode (oddWord.readByte 0x203 ++ oddWord.readByte 0x204) = .instr (.ldVN 0xA#4 0x77#8)) ∧
    ((State.reset.setPc 0x0FFE#16).withFetchWord 16 0x6001).pc.toNat = 0xFFE ∧
    decode (((State.reset.setPc 0x0FFE#16).withFetchWord 16 0x6001).readByte 0xFFE ++
      ((State.reset.setPc 0x0FFE#16).withFetchWord 16 0x6001).readByte 0xFFF) = .instr (.ldVN 0x0#4 0x01#8) :=
  ⟨⟨.inl ⟨rfl, rfl⟩, rfl, rfl, by decide, by decide⟩, by decide, by decide⟩

theorem witness_InvalidWordOnlyAdvancesPc :
    StepDue State.reset State.reset ∧ State.reset.live = true ∧ State.reset.mode = .running ∧
    State.reset.pc.toNat ≤ 0xFFE ∧
    0x0000#16 = State.reset.readByte State.reset.pc.toNat ++ State.reset.readByte (State.reset.pc.toNat + 1) ∧
    decode 0x0000#16 = .invalidOpcode 0x0000#16 :=
  ⟨.inl ⟨rfl, rfl⟩, rfl, rfl, by decide, by decide, by decide⟩

/-- PC = 0xFFF, the least PC that allows no fetch. -/
theorem witness_FetchPastTheTopIsStuck :
    StepDue (State.reset.setPc 0x0FFF#16) (State.reset.setPc 0x0FFF#16) ∧ (State.reset.setPc 0x0FFF#16).live = true ∧
    (State.reset.setPc 0x0FFF#16).mode = .running ∧ 0xFFF ≤ (State.reset.setPc 0x0FFF#16).pc.toNat ∧
    (State.reset.setPc 0x0FFF#16).schedule = [] :=
  ⟨.inl ⟨rfl, rfl⟩, rfl, rfl, by decide, rfl⟩

/-- Key 7 held since the last sample (Q2 line 3). -/
theorem witness_AwaitingStepWithoutTransitionOnlySamples :
    StepDue ((waiting.setKey 0x7#4 true).setKprev (waiting.setKey 0x7#4 true).key)
      ((waiting.setKey 0x7#4 true).setKprev (waiting.setKey 0x7#4 true).key) ∧
    waiting.live = true ∧ waiting.mode = .awaitingKey 0x5#4 ∧
    ∀ k, ¬ GoesDown ((waiting.setKey 0x7#4 true).setKprev (waiting.setKey 0x7#4 true).key) k :=
  ⟨.inl ⟨rfl, rfl⟩, rfl, rfl, by unfold GoesDown; decide⟩

/-- Keys 2 and 7 go down and 2 is the lowest; the highest key alone; the lowest key of all. -/
theorem witness_AwaitingStepResumesWithLowestKey :
    (StepDue ((waiting.setKey 0x7#4 true).setKey 0x2#4 true) ((waiting.setKey 0x7#4 true).setKey 0x2#4 true) ∧
      waiting.live = true ∧ waiting.mode = .awaitingKey 0x5#4 ∧
      GoesDown ((waiting.setKey 0x7#4 true).setKey 0x2#4 true) 0x2#4 ∧
      ∀ j : Nibble, j.toNat < (0x2#4).toNat → ¬ GoesDown ((waiting.setKey 0x7#4 true).setKey 0x2#4 true) j) ∧
    (GoesDown (waiting.setKey 0xF#4 true) 0xF#4 ∧
      ∀ j : Nibble, j.toNat < (0xF#4).toNat → ¬ GoesDown (waiting.setKey 0xF#4 true) j) ∧
    (GoesDown (waiting.setKey 0x0#4 true) 0x0#4 ∧
      ∀ j : Nibble, j.toNat < (0x0#4).toNat → ¬ GoesDown (waiting.setKey 0x0#4 true) j) := by
  unfold GoesDown
  exact ⟨⟨.inl ⟨rfl, rfl⟩, rfl, rfl, by decide, by decide⟩, by decide, by decide⟩

/-- A wait ended by a key, and one ended by INIT. -/
theorem witness_WaitEndsOnlyByKeyOrInit :
    (waiting.mode = .awaitingKey 0x5#4 ∧
      step (waiting.setKey 0x3#4 true) = .next (awaitStep 0x5#4 (waiting.setKey 0x3#4 true)) ∧
      (awaitStep 0x5#4 (waiting.setKey 0x3#4 true)).mode ≠ .awaitingKey 0x5#4) ∧
    (step (waiting.setSchedule [.init []]) = .next State.reset ∧ State.reset.mode ≠ .awaitingKey 0x5#4) :=
  ⟨⟨rfl, rfl, by decide⟩, rfl, by decide⟩

/-- One timer at 1 and one at 0. -/
theorem witness_TickCountsBothTimersDown :
    ((State.reset.setDt 1#8).setSchedule [.tick]).schedule = .tick :: [] ∧
    ((State.reset.setDt 1#8).setSchedule [.tick]).live = true ∧
    ((State.reset.setDt 1#8).setSchedule [.tick]).dt.toNat > 0 ∧
    ¬ ((State.reset.setDt 1#8).setSchedule [.tick]).st.toNat > 0 := ⟨rfl, rfl, by decide, by decide⟩

/-- The ids 15 and 16. -/
theorem witness_SetKeyWritesOneFlagOrFails :
    (State.reset.setSchedule [.setKey 15#8 true]).schedule = .setKey 15#8 true :: [] ∧
    (State.reset.setSchedule [.setKey 16#8 true]).schedule = .setKey 16#8 true :: [] ∧
    (State.reset.setSchedule [.setKey 15#8 true]).live = true ∧ (15#8).toNat ≤ 15 ∧ 15 < (16#8).toNat :=
  ⟨rfl, rfl, rfl, by decide, by decide⟩

theorem witness_ToneLastsExactlyStTicks :
    (State.reset.setSchedule [.tick, .tick, .step]).live = true ∧
    (State.reset.setSchedule [.tick, .tick, .step]).schedule = List.replicate 2 .tick ++ [.step] := ⟨rfl, rfl⟩

/-- An instruction that returns an error, and one that completes: the hypotheses of the statements on every
instruction. -/
theorem witness_exec_answers :
    (exec .ret State.reset = .next (raise .stackUnderflow State.reset) ∧
      (raise .stackUnderflow State.reset).status ≠ .ok) ∧
    exec .cls State.reset = .next (complete (State.reset.setFb FrameBuffer.blank)) :=
  ⟨⟨rfl, by decide⟩, rfl⟩

/-- The six clauses of R25, in order. -/
theorem witness_PcChangesOnlyAsListed :
    (exec .cls State.reset = .next (complete (State.reset.setFb FrameBuffer.blank)) ∧ Component.pc ∉ (mayWrite .cls).2) ∧
    (exec (.seVN 0x0#4 0#8) State.reset = .next (complete (State.reset.setPc 0x0202#16)) ∧
      isSkip (.seVN 0x0#4 0#8) = true) ∧
    (exec .ret State.reset = .next (raise .stackUnderflow State.reset) ∧
      (raise .stackUnderflow State.reset).status ≠ .ok) ∧
    step (State.reset.setSchedule [.tick]) = .next (tickEvent State.reset) ∧
    step (State.reset.setSchedule [.setKey 16#8 true]) = .next (raise .invalidKeyIndex State.reset) ∧
    (StepDue waiting waiting ∧ waiting.mode = .awaitingKey 0x5#4 ∧ step waiting = .next (awaitStep 0x5#4 waiting)) :=
  ⟨⟨rfl, by decide⟩, ⟨rfl, rfl⟩, ⟨rfl, by decide⟩, rfl, rfl, .inl ⟨rfl, rfl⟩, rfl, rfl⟩

/-- An instruction that names VF nowhere, and one that writes it as a flag. -/
theorem witness_OnlySixInstructionsWriteVfAsFlag :
    (exec (.ldI 0#12) State.reset = .next State.reset ∧ writesFlag (.ldI 0#12) = false ∧
      vf ∉ (mayWrite (.ldI 0#12)).1) ∧
    (exec (.addVV 0x0#4 0x1#4) State.reset =
        .next (complete (writeResultThenFlag 0x0#4 0#8 false State.reset)) ∧
      writesFlag (.addVV 0x0#4 0x1#4) = true ∧
      (complete (writeResultThenFlag 0x0#4 0#8 false State.reset)).status = .ok) :=
  ⟨⟨rfl, rfl, by decide⟩, rfl, rfl, rfl⟩

/-- A marked machine whose next event is a STEP, and one whose next event is an INIT that fails. -/
theorem witness_StickyMarkOutlivesEveryEventButInit :
    (step (raise .invalidOpcode State.reset) =
        .next (raise .invalidOpcode ((raise .invalidOpcode State.reset).setPc 0x0202#16)) ∧
      (raise .invalidOpcode State.reset).faultMark = true ∧
      ∀ rom rest, (raise .invalidOpcode State.reset).schedule = .init rom :: rest → 3584 < rom.length) ∧
    (((raise .invalidOpcode State.reset).setSchedule [.init (romOf 3585)]).faultMark = true ∧
      ∀ rom rest, ((raise .invalidOpcode State.reset).setSchedule [.init (romOf 3585)]).schedule =
        .init rom :: rest → 3584 < rom.length) := by
  refine ⟨⟨rfl, rfl, fun _ _ h => ?_⟩, rfl, fun rom rest h => ?_⟩
  · cases h
  · have hh : [Event.init (romOf 3585)] = Event.init rom :: rest := h
    cases hh; rw [romOf_length]; decide

/-- A machine inside a subroutine, its return address at the greatest value, PC at its greatest value (T23), and the mark
raised. -/
def deepest : State :=
  raise .stackOverflow (((State.reset.setSp 1#8).setSlot 0x0#4 0x1000#16).setPc 0x10FE#16 |>.setI 0x0FFF#16)

theorem witness_Inv : Inv State.reset ∧ Inv deepest :=
  ⟨⟨rfl, by decide, by decide, by decide, by decide, by decide⟩, ⟨rfl, by decide, by decide, by decide, by decide, by decide⟩⟩

/-- The hypotheses of EveryStepKeepsTheInvariant and LiveMachineAlwaysCompletesItsEvent, with a STEP due. -/
theorem witness_EveryStepKeepsTheInvariant :
    Inv deepest ∧ step deepest = .next (raise .memoryOutOfRange deepest) ∧ deepest.live = true ∧
    (deepest.schedule = [] ∨ ∃ rest, deepest.schedule = .step :: rest) :=
  ⟨witness_Inv.2, rfl, rfl, .inl rfl⟩

/-- P5: 6A 77 stored over the next instruction. -/
def selfModifying : State := (with2 0x0#4 0x6A#8 0x1#4 0x77#8).setI 0x0200#16

theorem witness_StoredWordIsTheNextInstruction :
    selfModifying.mem.wf = true ∧ selfModifying.live = true ∧ selfModifying.mode = .running ∧
    selfModifying.schedule = [] ∧ 0 + 1 ≤ (0x1#4).toNat ∧ selfModifying.i.toNat + (0x1#4).toNat ≤ 0xFFF ∧
    selfModifying.pc.toNat = selfModifying.i.toNat + 0 ∧
    decode (selfModifying.readV 0x0#4 ++ selfModifying.readV 0x1#4) = .instr (.ldVN 0xA#4 0x77#8) := by decide

theorem witness_EncodeOfDecodeIsTheWord : decode 0x8126#16 = .instr (.shr 0x1#4 0x2#4) := by decide

/-- A word that selects a row, and a word that selects none. -/
theorem witness_DecodeFollowsTheOpcodeTable :
    (⟨"JP", 0x1000#16, 0xF000#16⟩ : OpcodeRow) ∈ opcodeTable ∧
    OpcodeRow.selects ⟨"JP", 0x1000#16, 0xF000#16⟩ 0x1234#16 = true ∧
    ∀ row ∈ opcodeTable, row.selects 0x0000#16 = false := by decide

/-- Words that meet the encoding hypotheses of the statements on one instruction. -/
theorem witness_encodings :
    0x1234#16 &&& 0xF000#16 = 0x1000#16 ∧ 0x2300#16 &&& 0xF000#16 = 0x2000#16 ∧ 0x332A#16 &&& 0xF000#16 = 0x3000#16 ∧
    0x432A#16 &&& 0xF000#16 = 0x4000#16 ∧ 0x5120#16 &&& 0xF00F#16 = 0x5000#16 ∧ 0x9120#16 &&& 0xF00F#16 = 0x9000#16 ∧
    0x6A2F#16 &&& 0xF000#16 = 0x6000#16 ∧ 0x8120#16 &&& 0xF00F#16 = 0x8000#16 ∧ 0x7101#16 &&& 0xF000#16 = 0x7000#16 ∧
    0x8121#16 &&& 0xF00F#16 = 0x8001#16 ∧ 0x8122#16 &&& 0xF00F#16 = 0x8002#16 ∧ 0x8123#16 &&& 0xF00F#16 = 0x8003#16 ∧
    0xA20A#16 &&& 0xF000#16 = 0xA000#16 ∧ 0xF21E#16 &&& 0xF0FF#16 = 0xF01E#16 ∧ 0xF307#16 &&& 0xF0FF#16 = 0xF007#16 ∧
    0xF315#16 &&& 0xF0FF#16 = 0xF015#16 ∧ 0xF318#16 &&& 0xF0FF#16 = 0xF018#16 := by decide

/-- The last free slot, and the full stack. -/
theorem witness_CallPushesPcAndJumpsOrOverflows :
    (State.reset.setSp 15#8).sp.toNat < 16 ∧ (State.reset.setSp 16#8).sp.toNat = 16 := by decide

/-- One address held, sixteen held, and none. -/
theorem witness_RetPopsPcOrUnderflows :
    (0 < (State.reset.setSp 1#8).sp.toNat ∧ (State.reset.setSp 1#8).sp.toNat ≤ 16) ∧
    (0x0#4).toNat = (State.reset.setSp 1#8).sp.toNat - 1 ∧
    (0 < (State.reset.setSp 16#8).sp.toNat ∧ (State.reset.setSp 16#8).sp.toNat ≤ 16) ∧
    (0xF#4).toNat = (State.reset.setSp 16#8).sp.toNat - 1 ∧ State.reset.sp.toNat = 0 := by decide

/-- u is the state after the CALL itself, at the last free slot. -/
theorem witness_RetAfterCallReturnsBehindIt :
    (State.reset.setSp 15#8).sp.toNat < 16 ∧ ∃ t, exec (.call 0x300#12) (State.reset.setSp 15#8) = .next t ∧
      t.sp = t.sp ∧ ∀ k, t.slot k = t.slot k :=
  ⟨by decide, _, rfl, rfl, fun _ => rfl⟩

/-- Both ways of each skip. -/
theorem witness_skips :
    (State.reset.readV 0x3#4 = 0x00#8 ∧ State.reset.readV 0x3#4 ≠ 0x2A#8) ∧
    (State.reset.readV 0x1#4 = State.reset.readV 0x2#4 ∧
      (with2 0x1#4 7#8 0x2#4 8#8).readV 0x1#4 ≠ (with2 0x1#4 7#8 0x2#4 8#8).readV 0x2#4) := by decide

/-- A destination that is not VF; the flags of the statements are if and else chains. -/
theorem witness_results_outside_vf : (0x1#4 : Nibble) ≠ vf := by decide

/-- A bit the immediate masks off. -/
theorem witness_RandomByteIsMaskedByImmediate : (0x0F#8).getLsbD 4 = false := by decide

/-- The last legal I for three bytes (T90), and the addresses beside the block. -/
theorem witness_BcdStoresThreeDigits :
    (State.reset.setI 0x0FFD#16).mem.wf = true ∧ (State.reset.setI 0x0FFD#16).i.toNat + 2 ≤ 0xFFF ∧
    0xFFC < (State.reset.setI 0x0FFD#16).i.toNat ∧ (State.reset.setI 0x0FFD#16).i.toNat + 2 < 0x1000 := by decide

/-- The last legal I for sixteen bytes (T95), the last register, and the addresses beside the block. -/
theorem witness_StoreRegistersWritesTheBlock :
    (State.reset.setI 0x0FF0#16).mem.wf = true ∧ (State.reset.setI 0x0FF0#16).i.toNat + (0xF#4).toNat ≤ 0xFFF ∧
    (0xF#4).toNat ≤ (0xF#4).toNat ∧ 0xFEF < (State.reset.setI 0x0FF0#16).i.toNat ∧
    (State.reset.setI 0x0FF0#16).i.toNat + (0xF#4).toNat < 0x1000 := by decide

/-- One register from the last byte (T93's address): V0 is loaded, V1 is above VX. -/
theorem witness_LoadRegistersReadsTheBlock :
    (State.reset.setI 0x0FFF#16).i.toNat + (0x0#4).toNat ≤ 0xFFF ∧ (0x0#4).toNat ≤ (0x0#4).toNat ∧
    (0x0#4).toNat < (0x1#4).toNat := by decide

/-- T91, T96, T99 and T111: one byte too many each. -/
theorem witness_BlockPastTheTopChangesNothing :
    0xFFF < (State.reset.setI 0x0FFE#16).i.toNat + 2 ∧ 0xFFF < (State.reset.setI 0x0FF1#16).i.toNat + (0xF#4).toNat ∧
    0xFFF < (State.reset.setI 0x0FFF#16).i.toNat + (0x1#4).toNat ∧ 0 < (0x2#4).toNat ∧
    0xFFF < (State.reset.setI 0x0FFF#16).i.toNat + (0x2#4).toNat - 1 := by decide

theorem witness_ClsClearsEveryPixel : 0x00E0#16 = 0x00E0#16 ∧ State.reset.live = true := ⟨rfl, rfl⟩

/-- Fifteen rows; a pixel the sprite covers across both edges (T108), lit and unlit, and one it does not cover. -/
theorem witness_SpriteTogglesCoveredPixelsAndDetectsCollision :
    (List.replicate 15 0x80#8).length ≤ 15 ∧ SpriteCovers 0xFF#8 0xFF#8 [0xC0#8] 0 31 ∧
    ¬ SpriteCovers 0xFF#8 0xFF#8 [0xC0#8] 0 0 ∧ (FrameBuffer.blank.set 0 31 true).get 0 31 = true ∧
    FrameBuffer.blank.get 0 31 = false := by
  refine ⟨by decide, ⟨0, 1, by decide, by decide, by decide, by decide, by decide⟩, ?_, by decide, by decide⟩
  rintro ⟨r, b, _, h, _, _, hy⟩
  have hr : r = 0 := by simpa using h
  subst hr
  exact absurd hy (by decide)

/-- No rows at the top of memory (T109), and one row at the last address (T110), covering a lit pixel or none lit. -/
theorem witness_DrwDrawsTheRowsAndReportsCollision :
    ((0x0#4).toNat = 0 ∨ (State.reset.setI 0x0FFF#16).i.toNat + (0x0#4).toNat - 1 ≤ 0xFFF) ∧
    ((0x1#4).toNat = 0 ∨ (withByte 0x0FFF#16 0xFFF 0x80#8).i.toNat + (0x1#4).toNat - 1 ≤ 0xFFF) ∧
    [0x80#8] = (List.range (0x1#4).toNat).map (fun r => (withByte 0x0FFF#16 0xFFF 0x80#8).readByte (0xFFF + r)) ∧
    (∃ px py, SpriteCovers 0#8 0#8 [0x80#8] px py ∧ (State.reset.setFb (State.reset.fb.set 0 0 true)).pixel px py = true) ∧
    (∀ px py, SpriteCovers 0#8 0#8 [0x00#8] px py → State.reset.pixel px py = false) := by
  refine ⟨by decide, by decide, by decide, ⟨0, 0, ⟨0, 0, by decide, by decide, by decide, by decide, by decide⟩, by decide⟩, ?_⟩
  rintro px py ⟨r, b, _, h, hb, _⟩
  have hr : r = 0 := by simpa using h
  subst hr
  simp at hb

/-- Key 15, pressed and not pressed. -/
theorem witness_KeypadSkipsTestTheKeyLevel :
    ((State.reset.setV 0x2#4 15#8).readV 0x2#4).toNat = (0xF#4).toNat ∧ State.reset.keyDown 0xF#4 = false ∧
    (State.reset.setKey 0xF#4 true).keyDown 0xF#4 = true := by decide

theorem witness_KeypadSkipsRejectKeyIdsAboveFifteen : 15 < ((State.reset.setV 0x2#4 16#8).readV 0x2#4).toNat := by decide

end Sys2Proof.Tests
end

section
/-! SUPPORT. The execute stage as one function: what each instruction attempts before `conclude` ends it. Every claim
about all instructions is a case analysis on `effect`, and not on the 34 meanings. -/

namespace Sys2Proof.Machine

/-! ### Attempts -/

/-- An attempt's result passed on; an error or a fault stays what it is. -/
def Attempt.map {α β : Type} (f : α → β) : Attempt α → Attempt β
  | .done a => .done (f a)
  | .raised e => .raised e
  | .broken r => .broken r

theorem Attempt.map_eq_done {α β : Type} {f : α → β} {a : Attempt α} {b : β} :
    a.map f = .done b ↔ ∃ r, a = .done r ∧ f r = b := by
  cases a <;> simp [Attempt.map]

theorem Attempt.map_eq_raised {α β : Type} {f : α → β} {a : Attempt α} {e : Status} :
    a.map f = .raised e ↔ a = .raised e := by
  cases a <;> simp [Attempt.map]

/-! ### When a shared operation completes, and with which error it fails -/

theorem push_eq_done {w : Word} {s u : State} (h : push w s = .done u) :
    s.sp.toNat < 16 ∧ u = (s.setSlot (BitVec.ofNat 4 s.sp.toNat) w).setSp (s.sp + 1) := by
  rcases push_cases w s with ⟨hsp, e⟩ | ⟨_, e⟩ | ⟨_, e⟩ <;> rw [e] at h <;> cases h
  exact ⟨hsp, rfl⟩

theorem push_eq_raised {w : Word} {s : State} {e : Status} (h : push w s = .raised e) : e = .stackOverflow := by
  rcases push_cases w s with ⟨_, e⟩ | ⟨_, e⟩ | ⟨_, e⟩ <;> rw [e] at h <;> cases h
  rfl

theorem pop_eq_done {s : State} {r : Word × State} (h : pop s = .done r) :
    0 < s.sp.toNat ∧ s.sp.toNat ≤ 16 ∧ r = (s.slot (BitVec.ofNat 4 (s.sp.toNat - 1)), s.setSp (s.sp - 1)) := by
  rcases pop_cases s with ⟨_, e⟩ | ⟨hpos, hle, e⟩ | ⟨_, e⟩ <;> rw [e] at h <;> cases h
  exact ⟨hpos, hle, rfl⟩

theorem pop_eq_raised {s : State} {e : Status} (h : pop s = .raised e) : e = .stackUnderflow := by
  rcases pop_cases s with ⟨_, e⟩ | ⟨_, _, e⟩ | ⟨_, e⟩ <;> rw [e] at h <;> cases h
  rfl

theorem readBlock_eq_done {s : State} {base len : Nat} {bytes : List Byte} (h : readBlock s base len = .done bytes) :
    (len = 0 ∨ base + len ≤ 4096) ∧ bytes = (List.range len).map fun k => s.readByte (base + k) := by
  rcases readBlock_cases s base len with ⟨hfit, e⟩ | ⟨_, _, e⟩ <;> rw [e] at h <;> cases h
  exact ⟨hfit, rfl⟩

theorem readBlock_eq_raised {s : State} {base len : Nat} {e : Status} (h : readBlock s base len = .raised e) :
    e = .memoryOutOfRange := by
  rcases readBlock_cases s base len with ⟨_, e⟩ | ⟨_, _, e⟩ <;> rw [e] at h <;> cases h
  rfl

theorem writeBlock_eq_done {s u : State} {base : Nat} {bytes : List Byte} (h : writeBlock s base bytes = .done u) :
    (bytes.length = 0 ∨ base + bytes.length ≤ 4096) ∧ u = s.setMem (s.mem.writeAll base bytes) := by
  rcases writeBlock_cases s base bytes with ⟨hfit, e⟩ | ⟨_, _, e⟩ <;> rw [e] at h <;> cases h
  exact ⟨hfit, rfl⟩

theorem writeBlock_eq_raised {s : State} {base : Nat} {bytes : List Byte} {e : Status}
    (h : writeBlock s base bytes = .raised e) : e = .memoryOutOfRange := by
  rcases writeBlock_cases s base bytes with ⟨_, e⟩ | ⟨_, _, e⟩ <;> rw [e] at h <;> cases h
  rfl

theorem skipOnKey_eq_done {x : Nibble} {level : Bool} {s u : State} (h : skipOnKey x level s = .done u) :
    (s.readV x).toNat ≤ 15 ∧ u = skipIf (s.keyDown (keyOfId (s.readV x)) == level) s := by
  rcases skipOnKey_cases x level s with ⟨hid, e⟩ | ⟨_, e⟩ <;> rw [e] at h <;> cases h
  exact ⟨hid, rfl⟩

theorem skipOnKey_eq_raised {x : Nibble} {level : Bool} {s : State} {e : Status}
    (h : skipOnKey x level s = .raised e) : e = .invalidKeyIndex := by
  rcases skipOnKey_cases x level s with ⟨_, e⟩ | ⟨_, e⟩ <;> rw [e] at h <;> cases h
  rfl

/-! ### The effect of an instruction -/

/-- What an instruction attempts on the state in which its execute stage begins; `exec_eq_conclude` ties it to `exec`. -/
def effect (i : Instr) (s : State) : Attempt State :=
  match i with
  | .cls => .done (s.setFb FrameBuffer.blank)
  | .ret => (pop s).map fun r => r.2.setPc r.1
  | .jp nnn => .done (s.setPc (addressOf nnn))
  | .call nnn => (push s.pc s).map (State.setPc (addressOf nnn))
  | .seVN x nn => .done (skipIf (s.readV x == nn) s)
  | .sneVN x nn => .done (skipIf (s.readV x != nn) s)
  | .seVV x y => .done (skipIf (s.readV x == s.readV y) s)
  | .ldVN x nn => .done (s.setV x nn)
  | .addVN x nn => .done (s.setV x (s.readV x + nn))
  | .ldVV x y => .done (s.setV x (s.readV y))
  | .orVV x y => .done (s.setV x (s.readV x ||| s.readV y))
  | .andVV x y => .done (s.setV x (s.readV x &&& s.readV y))
  | .xorVV x y => .done (s.setV x (s.readV x ^^^ s.readV y))
  | .addVV x y =>
    .done (writeResultThenFlag x (s.readV x + s.readV y) (carryOut (s.readV x) (s.readV y)) s)
  | .sub x y => .done (writeResultThenFlag x (s.readV x - s.readV y) (notBorrow (s.readV x) (s.readV y)) s)
  | .shr x _ => .done (writeResultThenFlag x (s.readV x >>> 1) (shiftedOutRight (s.readV x)) s)
  | .subn x y => .done (writeResultThenFlag x (s.readV y - s.readV x) (notBorrow (s.readV y) (s.readV x)) s)
  | .shl x _ => .done (writeResultThenFlag x (s.readV x <<< 1) (shiftedOutLeft (s.readV x)) s)
  | .sneVV x y => .done (skipIf (s.readV x != s.readV y) s)
  | .ldI nnn => .done (s.setI (addressOf nnn))
  | .jpV0 nnn => .done (s.setPc (addressOf nnn + extended (s.readV 0#4)))
  | .rnd x nn => .done ((s.setV x (Config.rnd s.draws &&& nn)).setDraws (s.draws + 1))
  | .drw x y n => (readBlock s (blockBase s) n.toNat).map fun rows =>
      writeFlag (drawSprite s.fb (s.readV x) (s.readV y) rows).2
        (s.setFb (drawSprite s.fb (s.readV x) (s.readV y) rows).1)
  | .skp x => skipOnKey x true s
  | .sknp x => skipOnKey x false s
  | .ldVDT x => .done (s.setV x s.dt)
  | .ldVK x => .done ((s.setKprev s.key).setMode (.awaitingKey x))
  | .ldDTV x => .done (s.setDt (s.readV x))
  | .ldSTV x => .done (s.setSt (s.readV x))
  | .addIV x => .done (s.setI (maskIndex (s.i + extended (s.readV x))))
  | .ldFV x => .done (s.setI (maskIndex (extended (s.readV x) * 5#16)))
  | .ldBV x => writeBlock s (blockBase s) (decimalDigits (s.readV x))
  | .stRegs x => writeBlock s (blockBase s) (registersUpTo s x)
  | .ldRegs x => (readBlock s (blockBase s) (blockCount x)).map fun bytes => loadRegistersFrom 0 bytes s

/-- The execute stage is the instruction's effect, ended by `conclude` (R275). -/
theorem exec_eq_conclude (i : Instr) (s : State) : exec i s = conclude s (effect i s) := by
  cases i with
  | ret => simp only [exec, execRet, effect]; cases pop s <;> rfl
  | call nnn => simp only [exec, execCall, effect]; cases push s.pc s <;> rfl
  | drw x y n => simp only [exec, execDrw, effect]; cases readBlock s (blockBase s) n.toNat <;> rfl
  | ldRegs x => simp only [exec, execLdRegs, effect]; cases readBlock s (blockBase s) (blockCount x) <;> rfl
  | _ => rfl

/-- An instruction raises only the errors the table of R270 gives it. -/
theorem effect_eq_raised {i : Instr} {s : State} {e : Status} (h : effect i s = .raised e) :
    e ∈ possibleStatuses i ∧ e ≠ .ok := by
  cases i with
  | ret => cases pop_eq_raised (Attempt.map_eq_raised.1 h); decide
  | call nnn => cases push_eq_raised (Attempt.map_eq_raised.1 h); exact ⟨by simp [possibleStatuses], by decide⟩
  | drw x y n =>
    cases readBlock_eq_raised (Attempt.map_eq_raised.1 h); exact ⟨by simp [possibleStatuses], by decide⟩
  | ldRegs x => cases readBlock_eq_raised (Attempt.map_eq_raised.1 h); exact ⟨by simp [possibleStatuses], by decide⟩
  | ldBV x | stRegs x => cases writeBlock_eq_raised h; exact ⟨by simp [possibleStatuses], by decide⟩
  | skp x | sknp x => cases skipOnKey_eq_raised h; exact ⟨by simp [possibleStatuses], by decide⟩
  | _ => cases h

/-- Everything the execute stage can answer as a next state: the effect completed with Ok, or an error that discards
it. -/
theorem exec_next {i : Instr} {s t : State} (h : exec i s = .next t) :
    (∃ u, effect i s = .done u ∧ t = complete u) ∨ (∃ e, e ≠ .ok ∧ effect i s = .raised e ∧ t = raise e s) := by
  rw [exec_eq_conclude] at h
  rcases conclude_next h with hdone | ⟨e, he, ht⟩
  · exact .inl hdone
  · exact .inr ⟨e, (effect_eq_raised he).2, he, ht⟩

/-- The effect of a skip, once it completes, is `skipIf` on some condition (R140 (d)). -/
theorem effect_of_isSkip {i : Instr} {s u : State} (h : effect i s = .done u) (hi : isSkip i = true) :
    ∃ condition, u = skipIf condition s := by
  cases i with
  | seVN x nn | sneVN x nn | seVV x y | sneVV x y => cases h; exact ⟨_, rfl⟩
  | skp x | sknp x => exact ⟨_, (skipOnKey_eq_done h).2⟩
  | _ => cases hi

/-- An instruction of R22 that completes leaves in VF the byte of a flag. -/
theorem effect_of_writesFlag {i : Instr} {s u : State} (h : effect i s = .done u) (hi : writesFlag i = true) :
    ∃ flag, u.readV vf = flagByte flag := by
  cases i with
  | addVV x y | sub x y | shr x y | subn x y | shl x y =>
    cases h; exact ⟨_, by rw [writeResultThenFlag_readV, if_pos rfl]⟩
  | drw x y n =>
    obtain ⟨rows, _, rfl⟩ := Attempt.map_eq_done.1 h
    exact ⟨_, State.readV_setV_same ..⟩
  | _ => cases hi

theorem flagByte_eq_zero_or_one (flag : Bool) : flagByte flag = 0 ∨ flagByte flag = 1 := by
  cases flag
  · exact .inl rfl
  · exact .inr rfl

end Sys2Proof.Machine
end

section
/-! SUPPORT. Events: what `step` performs, and when a machine answers. -/

namespace Sys2Proof.Machine

theorem step_of_schedule {s : State} {e : Event} {rest : List Event} (h : s.schedule = e :: rest) :
    step s = perform e (s.setSchedule rest) := by
  simp only [step, performNext, nextEvent, h]

theorem step_of_stepDue {s due : State} (h : StepDue s due) : step s = perform .step due := by
  rcases h with ⟨hnil, rfl⟩ | ⟨rest, hcons, rfl⟩
  · simp only [step, performNext, nextEvent, hnil]
  · exact step_of_schedule hcons

theorem StepDue.mode_eq {s due : State} (h : StepDue s due) : due.mode = s.mode := by
  rcases h with ⟨_, rfl⟩ | ⟨rest, _, rfl⟩ <;> rfl

theorem StepDue.pc_eq {s due : State} (h : StepDue s due) : due.pc = s.pc := by
  rcases h with ⟨_, rfl⟩ | ⟨rest, _, rfl⟩ <;> rfl

theorem perform_step_next {s t : State} :
    perform .step s = .next t ↔ s.live = true ∧ stepEvent s = .next t := by
  cases hl : s.live <;> simp [perform, hl]

theorem perform_tick_next {s t : State} : perform .tick s = .next t ↔ s.live = true ∧ tickEvent s = t := by
  cases hl : s.live <;> simp [perform, hl]

theorem perform_setKey_next {id : Byte} {pressed : Bool} {s t : State} :
    perform (.setKey id pressed) s = .next t ↔ s.live = true ∧ setKeyEvent id pressed s = t := by
  cases hl : s.live <;> simp [perform, hl]

theorem stepEvent_of_awaiting {s : State} {x : Nibble} (h : s.mode = .awaitingKey x) :
    stepEvent s = .next (awaitStep x s) := by
  simp only [stepEvent, h]

theorem stepEvent_of_running {s : State} (h : s.mode = .running) : stepEvent s = runStep s := by
  simp only [stepEvent, h]

@[simp] theorem setKeyEvent_pc (id : Byte) (pressed : Bool) (s : State) : (setKeyEvent id pressed s).pc = s.pc := by
  rcases setKeyEvent_cases id pressed s with ⟨_, e⟩ | ⟨_, e⟩ <;> rw [e] <;> rfl

@[simp] theorem awaitStep_pc (x : Nibble) (s : State) : (awaitStep x s).pc = s.pc := by
  rcases awaitStep_cases x s with ⟨_, e⟩ | ⟨k, _, e⟩ <;> rw [e] <;> rfl

end Sys2Proof.Machine
end

section
/-! SUPPORT. The invariant `Inv`: kept by each update of State, then by each instruction, then by each event. -/

namespace Sys2Proof.Machine

/-! ### Updates of fields the invariant does not read -/

theorem Inv.of_eq {s t : State} (h : Inv s) (hmem : t.mem = s.mem) (hi : t.i = s.i) (hsp : t.sp = s.sp)
    (hstack : t.stack = s.stack) (hpc : t.pc = s.pc) (hstatus : t.status = s.status)
    (hmark : t.faultMark = s.faultMark) : Inv t where
  memory := by rw [hmem]; exact h.memory
  index := by rw [hi]; exact h.index
  stackPointer := by rw [hsp]; exact h.stackPointer
  returnAddresses := by rw [hsp]; simp only [State.slot, hstack]; exact h.returnAddresses
  programCounter := by rw [hpc]; exact h.programCounter
  mark := by rw [hstatus, hmark]; exact h.mark

theorem Inv.setV {s : State} (h : Inv s) (x : Nibble) (b : Byte) : Inv (s.setV x b) :=
  h.of_eq rfl rfl rfl rfl rfl rfl rfl

theorem Inv.setDt {s : State} (h : Inv s) (b : Byte) : Inv (s.setDt b) := h.of_eq rfl rfl rfl rfl rfl rfl rfl

theorem Inv.setSt {s : State} (h : Inv s) (b : Byte) : Inv (s.setSt b) := h.of_eq rfl rfl rfl rfl rfl rfl rfl

theorem Inv.setFb {s : State} (h : Inv s) (f : FrameBuffer) : Inv (s.setFb f) := h.of_eq rfl rfl rfl rfl rfl rfl rfl

theorem Inv.setKeys {s : State} (h : Inv s) (k : Vector Bool 16) : Inv (s.setKeys k) :=
  h.of_eq rfl rfl rfl rfl rfl rfl rfl

theorem Inv.setMode {s : State} (h : Inv s) (m : Mode) : Inv (s.setMode m) := h.of_eq rfl rfl rfl rfl rfl rfl rfl

theorem Inv.setKprev {s : State} (h : Inv s) (k : Vector Bool 16) : Inv (s.setKprev k) :=
  h.of_eq rfl rfl rfl rfl rfl rfl rfl

theorem Inv.setDraws {s : State} (h : Inv s) (n : Nat) : Inv (s.setDraws n) := h.of_eq rfl rfl rfl rfl rfl rfl rfl

theorem Inv.setLive {s : State} (h : Inv s) (b : Bool) : Inv (s.setLive b) := h.of_eq rfl rfl rfl rfl rfl rfl rfl

theorem Inv.setSchedule {s : State} (h : Inv s) (es : List Event) : Inv (s.setSchedule es) :=
  h.of_eq rfl rfl rfl rfl rfl rfl rfl

theorem Inv.after_writeResultThenFlag {s : State} (h : Inv s) (x : Nibble) (result : Byte) (flag : Bool) :
    Inv (writeResultThenFlag x result flag s) :=
  (h.setV x result).setV vf (flagByte flag)

theorem Inv.after_loadRegistersFrom {s : State} (h : Inv s) (k : Nat) (bs : List Byte) : Inv (loadRegistersFrom k bs s) := by
  induction bs generalizing k s with
  | nil => exact h
  | cons b bs ih => exact ih (h.setV _ b) (k + 1)

/-! ### Updates of fields the invariant bounds -/

theorem Inv.setMem {s : State} (h : Inv s) {m : Memory} (hm : m.wf = true) : Inv (s.setMem m) := { h with memory := hm }

theorem Inv.setI {s : State} (h : Inv s) {w : Word} (hw : w.toNat ≤ 0xFFF) : Inv (s.setI w) := { h with index := hw }

theorem Inv.setPc {s : State} (h : Inv s) {w : Word} (hw : w.toNat ≤ 0x10FE) : Inv (s.setPc w) :=
  { h with programCounter := hw }

/-- Completing an event: its status is Ok, so the mark is not asked for. -/
theorem Inv.after_complete {s : State} (h : Inv s) : Inv (complete s) := { h with mark := fun hne => absurd rfl hne }

/-- Taking an error raises the mark (R276). -/
theorem Inv.after_raise {s : State} (h : Inv s) (e : Status) : Inv (raise e s) := { h with mark := fun _ => rfl }

/-- A skip from an advanced PC stays below the bound. -/
theorem Inv.after_skipIf {s : State} (h : Inv s) (hpc : s.pc.toNat ≤ 0x1000) (condition : Bool) :
    Inv (skipIf condition s) := by
  rcases skipIf_cases condition s with ⟨_, e⟩ | ⟨_, e⟩ <;> rw [e]
  · exact h.setPc (by bv_omega)
  · exact h

/-- Pushing an address of at most 0x1000 keeps every held return address so (R30). -/
theorem Inv.after_push {s u : State} {w : Word} (h : Inv s) (hw : w.toNat ≤ 0x1000) (hu : push w s = .done u) : Inv u := by
  obtain ⟨hsp, rfl⟩ := push_eq_done hu
  have hsucc : (s.sp + 1).toNat = s.sp.toNat + 1 := by bv_omega
  refine { h with stackPointer := ?_, returnAddresses := fun k hk => ?_ }
  · simp only [State.setSp_sp, hsucc]; omega
  · simp only [State.setSp_sp, hsucc] at hk
    simp only [State.setSp_slot, State.slot_setSlot]
    split_ifs with hnew
    · exact hw
    · refine h.returnAddresses k (Nat.lt_of_le_of_ne (Nat.le_of_lt_succ hk) fun heq => hnew ?_)
      rw [← heq, BitVec.ofNat_toNat, BitVec.setWidth_eq]

/-- Popping answers a held return address and drops it (R31). -/
theorem Inv.after_pop {s : State} {r : Word × State} (h : Inv s) (hr : pop s = .done r) : r.1.toNat ≤ 0x1000 ∧ Inv r.2 := by
  obtain ⟨hpos, hle, rfl⟩ := pop_eq_done hr
  have hpred : (s.sp - 1).toNat = s.sp.toNat - 1 := by bv_omega
  refine ⟨h.returnAddresses _ (by rw [BitVec.toNat_ofNat]; omega), { h with stackPointer := ?_, returnAddresses := ?_ }⟩
  · simp only [State.setSp_sp, hpred]; omega
  · intro k hk
    simp only [State.setSp_sp, hpred] at hk
    exact h.returnAddresses k (by omega)

/-- Storing a block keeps the canonical form of memory. -/
theorem Inv.after_writeBlock {s u : State} {base : Nat} {bytes : List Byte} (h : Inv s)
    (hu : writeBlock s base bytes = .done u) : Inv u := by
  obtain ⟨_, rfl⟩ := writeBlock_eq_done hu
  exact h.setMem (Memory.wf_writeAll base bytes h.memory)

/-! ### Values within their bounds -/

theorem addressOf_le (nnn : Imm12) : (addressOf nnn).toNat ≤ 0xFFF := by
  rw [addressOf_toNat]; exact Nat.le_of_lt_succ nnn.isLt

theorem maskIndex_le (w : Word) : (maskIndex w).toNat ≤ 0xFFF := by
  rw [maskIndex_toNat]; exact Nat.le_of_lt_succ (Nat.mod_lt _ (by decide))

/-- The greatest PC: JP_V0 with NNN = 0xFFF and V0 = 0xFF (R26, R148). -/
theorem addressOf_add_extended_le (nnn : Imm12) (b : Byte) : (addressOf nnn + extended b).toNat ≤ 0x10FE := by
  have hn := addressOf_le nnn
  have hb := b.isLt
  rw [BitVec.toNat_add, extended_toNat]; omega

/-- A fetch at 0xFFE or below advances PC to at most 0x1000 (R125, R126). -/
theorem advance_pc_le {s : State} (h : s.pc.toNat ≤ 0xFFE) : (advance s).pc.toNat ≤ 0x1000 := by
  simp only [advance, State.setPc_pc]; bv_omega

/-! ### Instructions and events -/

/-- Every instruction keeps the invariant, from an advanced PC. -/
theorem Inv.after_effect {i : Instr} {s u : State} (h : Inv s) (hpc : s.pc.toNat ≤ 0x1000) (hu : effect i s = .done u) :
    Inv u := by
  cases i with
  | cls => cases hu; exact h.setFb _
  | ret =>
    obtain ⟨r, hr, rfl⟩ := Attempt.map_eq_done.1 hu
    obtain ⟨haddr, hinv⟩ := h.after_pop hr
    exact hinv.setPc (haddr.trans (by decide))
  | jp nnn => cases hu; exact h.setPc ((addressOf_le nnn).trans (by decide))
  | jpV0 nnn => cases hu; exact h.setPc (addressOf_add_extended_le nnn _)
  | call nnn =>
    obtain ⟨r, hr, rfl⟩ := Attempt.map_eq_done.1 hu
    exact (h.after_push hpc hr).setPc ((addressOf_le nnn).trans (by decide))
  | seVN x nn | sneVN x nn | seVV x y | sneVV x y | skp x | sknp x =>
    obtain ⟨condition, rfl⟩ := effect_of_isSkip hu rfl
    exact h.after_skipIf hpc condition
  | ldVN x nn | addVN x nn | ldVV x y | orVV x y | andVV x y | xorVV x y | ldVDT x => cases hu; exact h.setV x _
  | addVV x y | sub x y | shr x y | subn x y | shl x y => cases hu; exact h.after_writeResultThenFlag x _ _
  | rnd x nn => cases hu; exact (h.setV x _).setDraws _
  | ldI nnn => cases hu; exact h.setI (addressOf_le nnn)
  | addIV x | ldFV x => cases hu; exact h.setI (maskIndex_le _)
  | drw x y n =>
    obtain ⟨rows, _, rfl⟩ := Attempt.map_eq_done.1 hu
    exact (h.setFb _).setV vf _
  | ldVK x => cases hu; exact (h.setKprev _).setMode _
  | ldDTV x => cases hu; exact h.setDt _
  | ldSTV x => cases hu; exact h.setSt _
  | ldBV x | stRegs x => exact h.after_writeBlock hu
  | ldRegs x =>
    obtain ⟨bytes, _, rfl⟩ := Attempt.map_eq_done.1 hu
    exact h.after_loadRegistersFrom 0 bytes

theorem Inv.after_exec {i : Instr} {s t : State} (h : Inv s) (hpc : s.pc.toNat ≤ 0x1000) (ht : exec i s = .next t) :
    Inv t := by
  rcases exec_next ht with ⟨u, hu, rfl⟩ | ⟨e, _, _, rfl⟩
  · exact (h.after_effect hpc hu).after_complete
  · exact h.after_raise e

theorem Inv.after_runStep {s t : State} (h : Inv s) (ht : runStep s = .next t) : Inv t := by
  rcases runStep_cases s with ⟨_, e⟩ | ⟨hfetch, hfetched⟩
  · rw [e] at ht; cases ht; exact h.after_raise _
  · have hpc := advance_pc_le hfetch
    have hadv : Inv (advance s) := h.setPc (hpc.trans (by decide))
    rcases hfetched with ⟨i, _, e⟩ | e <;> rw [e] at ht
    · exact hadv.after_exec hpc ht
    · cases ht; exact hadv.after_raise _

theorem Inv.after_awaitStep {s : State} (h : Inv s) (x : Nibble) : Inv (awaitStep x s) := by
  rcases awaitStep_cases x s with ⟨_, e⟩ | ⟨k, _, e⟩ <;> rw [e]
  · exact (h.setKprev _).after_complete
  · exact ((h.setV x _).setMode _).after_complete

theorem Inv.after_stepEvent {s t : State} (h : Inv s) (ht : stepEvent s = .next t) : Inv t := by
  cases hm : s.mode with
  | running => rw [stepEvent_of_running hm] at ht; exact h.after_runStep ht
  | awaitingKey x => rw [stepEvent_of_awaiting hm] at ht; cases ht; exact h.after_awaitStep x

theorem Inv.after_setKeyEvent {s : State} (h : Inv s) (id : Byte) (pressed : Bool) : Inv (setKeyEvent id pressed s) := by
  rcases setKeyEvent_cases id pressed s with ⟨_, e⟩ | ⟨_, e⟩ <;> rw [e]
  · exact (h.setKeys _).after_complete
  · exact h.after_raise _

theorem inv_reset : Inv State.reset where
  memory := State.reset_mem_wf
  index := by decide
  stackPointer := by decide
  returnAddresses := fun k hk => absurd hk (Nat.not_lt_zero _)
  programCounter := by decide
  mark := fun hne => absurd rfl hne

/-- INIT: the reset state with a canonical memory, or the old state with an error (R310, R311). -/
theorem Inv.after_initEvent {s : State} (h : Inv s) (rom : List Byte) : Inv (initEvent rom s) := by
  rcases initEvent_cases rom s with ⟨hfit, e⟩ | ⟨_, e⟩ <;> rw [e]
  · have hmem : Memory.wf (romCells Config.progBase rom) = true :=
      Memory.wf_romCells rom (by simp only [Config.progBase, Config.memSize]; omega)
    exact ((inv_reset.setMem hmem).setDraws _).setSchedule _
  · exact (h.after_raise _).setLive _

theorem Inv.after_perform {e : Event} {s t : State} (h : Inv s) (ht : perform e s = .next t) : Inv t := by
  cases e with
  | init rom => cases ht; exact h.after_initEvent rom
  | step => exact h.after_stepEvent (perform_step_next.1 ht).2
  | tick => obtain ⟨_, rfl⟩ := perform_tick_next.1 ht; exact (h.setDt _).setSt _
  | setKey id pressed => obtain ⟨_, rfl⟩ := perform_setKey_next.1 ht; exact h.after_setKeyEvent id pressed

/-- The next event acts on a machine that differs in the schedule alone. -/
theorem Inv.after_nextEvent {s : State} (h : Inv s) : Inv (nextEvent s).2 := by
  rcases nextEvent_cases s with ⟨_, e⟩ | ⟨_, rest, _, e⟩ <;> rw [e]
  · exact h
  · exact h.setSchedule rest

/-- Settles O20: every event keeps the invariant, an instruction because it starts from an advanced PC. -/
theorem everyStepKeepsTheInvariant : Obligations.EveryStepKeepsTheInvariant := by
  unfold Obligations.EveryStepKeepsTheInvariant
  intro s t h ht
  exact h.after_nextEvent.after_perform ht

/-- Settles O4. -/
theorem resetMeetsTheInvariant : Obligations.ResetMeetsTheInvariant := inv_reset

end Sys2Proof.Machine
end

section
/-! SUPPORT. Frames: what each update of State leaves unchanged, and from these what each instruction does. -/

namespace Sys2Proof.Machine

/-! ### One rule per update -/

theorem FrameExcept.trans {regs regs' : List Nibble} {parts parts' : List Component} {s t u : State}
    (h : FrameExcept regs parts s t) (h' : FrameExcept regs' parts' t u) :
    FrameExcept (regs ++ regs') (parts ++ parts') s u := by
  obtain ⟨hregs, hparts⟩ := h
  obtain ⟨hregs', hparts'⟩ := h'
  refine ⟨fun x hx => ?_, fun c hc => ?_⟩
  · rw [List.mem_append, not_or] at hx
    rw [hregs' x hx.2, hregs x hx.1]
  · rw [List.mem_append, not_or] at hc
    have h1 := hparts c hc.1
    have h2 := hparts' c hc.2
    cases c <;> simp only [Unchanged] at h1 h2 ⊢ <;> simp only [h1, h2, implies_true]

theorem frame_setV (x : Nibble) (b : Byte) (s : State) : FrameExcept [x] [] s (s.setV x b) :=
  ⟨fun y hy => by rw [State.readV_setV, if_neg (by simpa using hy)], fun c _ => by cases c <;> simp [Unchanged]⟩

theorem frame_setI (w : Word) (s : State) : FrameExcept [] [.i] s (s.setI w) :=
  ⟨fun _ _ => rfl, fun c hc => by cases c <;> simp_all [Unchanged]⟩

theorem frame_setPc (w : Word) (s : State) : FrameExcept [] [.pc] s (s.setPc w) :=
  ⟨fun _ _ => rfl, fun c hc => by cases c <;> simp_all [Unchanged]⟩

theorem frame_setSp (b : Byte) (s : State) : FrameExcept [] [.sp] s (s.setSp b) :=
  ⟨fun _ _ => rfl, fun c hc => by cases c <;> simp_all [Unchanged]⟩

theorem frame_setSlot (k : Nibble) (w : Word) (s : State) : FrameExcept [] [.stack] s (s.setSlot k w) :=
  ⟨fun _ _ => rfl, fun c hc => by cases c <;> simp_all [Unchanged]⟩

theorem frame_setDt (b : Byte) (s : State) : FrameExcept [] [.dt] s (s.setDt b) :=
  ⟨fun _ _ => rfl, fun c hc => by cases c <;> simp_all [Unchanged]⟩

theorem frame_setSt (b : Byte) (s : State) : FrameExcept [] [.st] s (s.setSt b) :=
  ⟨fun _ _ => rfl, fun c hc => by cases c <;> simp_all [Unchanged]⟩

theorem frame_setMem (m : Memory) (s : State) : FrameExcept [] [.mem] s (s.setMem m) :=
  ⟨fun _ _ => rfl, fun c hc => by cases c <;> simp_all [Unchanged]⟩

theorem frame_setFb (f : FrameBuffer) (s : State) : FrameExcept [] [.fb] s (s.setFb f) :=
  ⟨fun _ _ => rfl, fun c hc => by cases c <;> simp_all [Unchanged]⟩

theorem frame_setMode (m : Mode) (s : State) : FrameExcept [] [.mode] s (s.setMode m) :=
  ⟨fun _ _ => rfl, fun c hc => by cases c <;> simp_all [Unchanged]⟩

theorem frame_setKprev (k : Vector Bool 16) (s : State) : FrameExcept [] [.kprev] s (s.setKprev k) :=
  ⟨fun _ _ => rfl, fun c hc => by cases c <;> simp_all [Unchanged]⟩

theorem frame_setDraws (n : Nat) (s : State) : FrameExcept [] [.draws] s (s.setDraws n) :=
  ⟨fun _ _ => rfl, fun c hc => by cases c <;> simp_all [Unchanged]⟩

theorem frame_refl (s : State) : FrameExcept [] [] s s :=
  ⟨fun _ _ => rfl, fun c _ => by cases c <;> simp [Unchanged]⟩

/-! ### The shared operations -/

theorem frame_skipIf (condition : Bool) (s : State) : FrameExcept [] [.pc] s (skipIf condition s) := by
  rcases skipIf_cases condition s with ⟨_, e⟩ | ⟨_, e⟩ <;> rw [e]
  · exact frame_setPc _ s
  · exact (frame_refl s).mono (List.nil_subset _) (List.nil_subset _)

theorem frame_writeResultThenFlag (x : Nibble) (result : Byte) (flag : Bool) (s : State) :
    FrameExcept [x, vf] [] s (writeResultThenFlag x result flag s) :=
  (frame_setV x result s).trans (frame_setV vf (flagByte flag) _)

theorem frame_push {w : Word} {s u : State} (h : push w s = .done u) : FrameExcept [] [.stack, .sp] s u := by
  obtain ⟨_, rfl⟩ := push_eq_done h
  exact (frame_setSlot _ w s).trans (frame_setSp _ _)

theorem frame_pop {s : State} {r : Word × State} (h : pop s = .done r) : FrameExcept [] [.sp] s r.2 := by
  obtain ⟨_, _, rfl⟩ := pop_eq_done h
  exact frame_setSp _ s

theorem frame_writeBlock {s u : State} {base : Nat} {bytes : List Byte} (h : writeBlock s base bytes = .done u) :
    FrameExcept [] [.mem] s u := by
  obtain ⟨_, rfl⟩ := writeBlock_eq_done h
  exact frame_setMem _ s

theorem mem_registersNamed {x y : Nibble} : y ∈ registersNamed x ↔ y.toNat ≤ x.toNat := by
  have hx := x.isLt
  simp only [registersNamed, List.mem_map, List.mem_range]
  constructor
  · rintro ⟨k, hk, rfl⟩; rw [BitVec.toNat_ofNat]; omega
  · intro h; exact ⟨y.toNat, by omega, by simp⟩

/-- Loading a block that V0..VX hold writes no register above VX (R196). -/
theorem frame_loadRegistersFrom {x : Nibble} {bytes : List Byte} (s : State) (h : bytes.length = blockCount x) :
    FrameExcept (registersNamed x) [] s (loadRegistersFrom 0 bytes s) := by
  refine ⟨fun y hy => ?_, fun c _ => unchanged_loadRegistersFrom c 0 bytes s⟩
  rw [mem_registersNamed] at hy
  have hx := x.isLt
  simp only [blockCount] at h
  rw [loadRegistersFrom_readV 0 bytes s y (by omega), dif_neg (by omega)]

/-! ### Instructions -/

/-- An instruction that completes changes only what `mayWrite` lists (R20). -/
theorem frame_effect {i : Instr} {s u : State} (h : effect i s = .done u) :
    FrameExcept (mayWrite i).1 (mayWrite i).2 s u := by
  cases i with
  | cls => cases h; exact frame_setFb _ s
  | ret =>
    obtain ⟨r, hr, rfl⟩ := Attempt.map_eq_done.1 h
    exact ((frame_pop hr).trans (frame_setPc r.1 r.2)).mono (List.nil_subset _) (by simp [mayWrite])
  | jp nnn | jpV0 nnn => cases h; exact frame_setPc _ s
  | call nnn =>
    obtain ⟨r, hr, rfl⟩ := Attempt.map_eq_done.1 h
    exact ((frame_push hr).trans (frame_setPc _ r)).mono (List.nil_subset _) (by simp [mayWrite])
  | seVN x nn | sneVN x nn | seVV x y | sneVV x y | skp x | sknp x =>
    obtain ⟨condition, rfl⟩ := effect_of_isSkip h rfl
    exact frame_skipIf condition s
  | ldVN x nn | addVN x nn | ldVV x y | orVV x y | andVV x y | xorVV x y | ldVDT x => cases h; exact frame_setV x _ s
  | addVV x y | sub x y | shr x y | subn x y | shl x y => cases h; exact frame_writeResultThenFlag x _ _ s
  | rnd x nn => cases h; exact (frame_setV x _ s).trans (frame_setDraws _ _)
  | ldI nnn | addIV x | ldFV x => cases h; exact frame_setI _ s
  | drw x y n =>
    obtain ⟨rows, _, rfl⟩ := Attempt.map_eq_done.1 h
    exact (frame_setFb _ s).trans (frame_setV vf _ _)
  | ldVK x => cases h; exact ((frame_setKprev _ s).trans (frame_setMode _ _)).mono (List.nil_subset _) (by simp [mayWrite])
  | ldDTV x => cases h; exact frame_setDt _ s
  | ldSTV x => cases h; exact frame_setSt _ s
  | ldBV x | stRegs x => exact frame_writeBlock h
  | ldRegs x =>
    obtain ⟨bytes, hbytes, rfl⟩ := Attempt.map_eq_done.1 h
    obtain ⟨_, rfl⟩ := readBlock_eq_done hbytes
    exact frame_loadRegistersFrom s (by simp)

theorem frame_exec {i : Instr} {s t : State} (h : exec i s = .next t) :
    FrameExcept (mayWrite i).1 (mayWrite i).2 s t := by
  rcases exec_next h with ⟨u, hu, rfl⟩ | ⟨e, _, _, rfl⟩
  · exact frame_complete (frame_effect hu)
  · exact (frame_raise e s).mono (List.nil_subset _) (List.nil_subset _)

/-- Settles O16. -/
theorem onlyListedWritersChangeState : Obligations.OnlyListedWritersChangeState := by
  unfold Obligations.OnlyListedWritersChangeState
  intro i s t h
  exact frame_exec h

end Sys2Proof.Machine
end

section
/-! SUPPORT. PC and VF: who writes them (R22, R25). -/

namespace Sys2Proof.Machine

theorem exec_pc_of_not_written {i : Instr} {s t : State} (h : exec i s = .next t)
    (hi : Component.pc ∉ (mayWrite i).2) : t.pc = s.pc :=
  (frame_exec h).2 .pc hi

theorem exec_pc_of_isSkip {i : Instr} {s t : State} (h : exec i s = .next t) (hi : isSkip i = true) :
    t.pc = s.pc ∨ t.pc = s.pc + 2#16 := by
  rcases exec_next h with ⟨u, hu, rfl⟩ | ⟨e, _, _, rfl⟩
  · obtain ⟨condition, rfl⟩ := effect_of_isSkip hu hi
    rcases skipIf_cases condition s with ⟨_, e⟩ | ⟨_, e⟩ <;> rw [e]
    · exact .inr rfl
    · exact .inl rfl
  · exact .inl rfl

theorem exec_pc_of_error {i : Instr} {s t : State} (h : exec i s = .next t) (ht : t.status ≠ .ok) : t.pc = s.pc := by
  rcases exec_next h with ⟨u, _, rfl⟩ | ⟨e, _, _, rfl⟩
  · exact absurd (complete_status u) ht
  · rfl

theorem step_pc_of_tick {s t : State} {rest : List Event} (hs : s.schedule = .tick :: rest) (h : step s = .next t) :
    t.pc = s.pc := by
  rw [step_of_schedule hs] at h
  obtain ⟨_, rfl⟩ := perform_tick_next.1 h
  rfl

theorem step_pc_of_setKey {s t : State} {id : Byte} {pressed : Bool} {rest : List Event}
    (hs : s.schedule = .setKey id pressed :: rest) (h : step s = .next t) : t.pc = s.pc := by
  rw [step_of_schedule hs] at h
  obtain ⟨_, rfl⟩ := perform_setKey_next.1 h
  simp

theorem step_pc_of_awaiting {s t due : State} {x : Nibble} (hd : StepDue s due) (hm : s.mode = .awaitingKey x)
    (h : step s = .next t) : t.pc = s.pc := by
  rw [step_of_stepDue hd, perform_step_next, stepEvent_of_awaiting (hd.mode_eq.trans hm)] at h
  obtain ⟨_, h⟩ := h
  cases h
  rw [awaitStep_pc, hd.pc_eq]

/-- Settles O17, one lemma for each clause of R25. -/
theorem pcChangesOnlyAsListed : Obligations.PcChangesOnlyAsListed := by
  unfold Obligations.PcChangesOnlyAsListed
  exact ⟨fun _ _ _ => exec_pc_of_not_written, fun _ _ _ => exec_pc_of_isSkip, fun _ _ _ => exec_pc_of_error,
    fun _ _ _ => step_pc_of_tick, fun _ _ _ _ _ => step_pc_of_setKey, fun _ _ _ _ => step_pc_of_awaiting⟩

theorem exec_vf_of_writesFlag {i : Instr} {s t : State} (h : exec i s = .next t) (hi : writesFlag i = true)
    (ht : t.status = .ok) : t.readV vf = 0 ∨ t.readV vf = 1 := by
  rcases exec_next h with ⟨u, hu, rfl⟩ | ⟨e, he, _, rfl⟩
  · obtain ⟨flag, hflag⟩ := effect_of_writesFlag hu hi
    rw [complete_readV, hflag]
    exact flagByte_eq_zero_or_one flag
  · exact absurd ht he

/-- Settles O18: VF outside an instruction's destinations is part of its frame (O16), and a flag is 0 or 1. -/
theorem onlySixInstructionsWriteVfAsFlag : Obligations.OnlySixInstructionsWriteVfAsFlag := by
  unfold Obligations.OnlySixInstructionsWriteVfAsFlag
  exact ⟨fun _ _ _ h _ hvf => (frame_exec h).1 vf hvf, fun _ _ _ => exec_vf_of_writesFlag⟩

end Sys2Proof.Machine
end

section
/-! SUPPORT. What the reset state reads as (R41). -/

namespace Sys2Proof.Machine

@[simp] theorem State.reset_readV (x : Nibble) : State.reset.readV x = 0 := by simp [State.readV, State.reset]

@[simp] theorem State.reset_keyDown (k : Nibble) : State.reset.keyDown k = false := by
  simp [State.keyDown, State.reset]

@[simp] theorem State.reset_keyWasDown (k : Nibble) : State.reset.keyWasDown k = false := by
  simp [State.keyWasDown, State.reset]

@[simp] theorem State.reset_pixel (x : Fin 64) (y : Fin 32) : State.reset.pixel x y = false :=
  FrameBuffer.get_blank x y

/-- INIT leaves 0 behind the font's 80 bytes (R61). -/
theorem Memory.unlisted_of_font_le {a : Nat} (h : 0x050 ≤ a) : Memory.unlisted a = 0 :=
  List.getD_eq_default _ _ h

/-- Settles O1. -/
theorem resetStateIsAsTabulated : Obligations.ResetStateIsAsTabulated := by
  unfold Obligations.ResetStateIsAsTabulated
  exact ⟨State.reset_readV, rfl, rfl, rfl, rfl, rfl, rfl, State.reset_keyDown, State.reset_keyWasDown,
    fun x y => congrArg some (State.reset_pixel x y), rfl, fun _ => Memory.unlisted_of_font_le, by decide, by decide⟩

end Sys2Proof.Machine
end

section
/-! SUPPORT. Memory blocks and the fetch: when a block access completes and when it fails (R66, R69), what a completed
store reads back as, and the STEP that runs a decoded word (R124, R125). -/

namespace Sys2Proof.Machine

/-! ### A block that runs past 0xFFF -/

theorem readBlock_past_top (s : State) {base len : Nat} (hlen : 0 < len) (h : 4096 < base + len) :
    readBlock s base len = .raised .memoryOutOfRange := by
  rcases readBlock_cases s base len with ⟨hfit, _⟩ | ⟨_, _, e⟩
  · omega
  · exact e

theorem writeBlock_past_top (s : State) {base : Nat} {bytes : List Byte} (hlen : 0 < bytes.length)
    (h : 4096 < base + bytes.length) : writeBlock s base bytes = .raised .memoryOutOfRange := by
  rcases writeBlock_cases s base bytes with ⟨hfit, _⟩ | ⟨_, _, e⟩
  · omega
  · exact e

/-- An error discards every effect of its instruction (R275). -/
theorem exec_of_effect_raised {i : Instr} {s : State} {e : Status} (h : effect i s = .raised e) :
    ∃ t, exec i s = .next t ∧ Returned e s t ∧ FrameExcept [] [] s t := by
  refine ⟨raise e s, ?_, returned_raise s (effect_eq_raised h).2, frame_raise e s⟩
  rw [exec_eq_conclude, h, conclude_raised]

/-- Settles O48: in each of the four the block access fails, and with it the instruction's effect. -/
theorem blockPastTheTopChangesNothing : Obligations.BlockPastTheTopChangesNothing := by
  unfold Obligations.BlockPastTheTopChangesNothing
  refine ⟨fun x s h => ?ldBV, fun x s h => ?stRegs, fun x s h => ?ldRegs, fun x y n s hn h => ?drw⟩ <;>
    apply exec_of_effect_raised
  case ldBV =>
    have hlen : (decimalDigits (s.readV x)).length = 3 := rfl
    exact writeBlock_past_top s (by omega) (by simp only [blockBase]; omega)
  case stRegs =>
    have hlen := registersUpTo_length s x
    exact writeBlock_past_top s (by omega) (by simp only [blockBase]; omega)
  case ldRegs =>
    exact Attempt.map_eq_raised.2
      (readBlock_past_top s (Nat.succ_pos _) (by simp only [blockBase, blockCount]; omega))
  case drw =>
    exact Attempt.map_eq_raised.2 (readBlock_past_top s hn (by simp only [blockBase]; omega))

/-! ### A block that fits -/

@[simp] theorem State.setMem_readByte (m : Memory) (s : State) (a : Nat) : (s.setMem m).readByte a = m.read a := rfl

theorem writeBlock_of_fits (s : State) {base : Nat} {bytes : List Byte} (h : base + bytes.length ≤ 4096) :
    writeBlock s base bytes = .done (s.setMem (s.mem.writeAll base bytes)) := by
  rcases writeBlock_cases s base bytes with ⟨_, e⟩ | ⟨_, hover, _⟩
  · exact e
  · omega

/-- FX55 with a block that fits stores it and returns Ok (R195). -/
theorem exec_stRegs_of_fits {s : State} {x : Nibble} (h : s.i.toNat + x.toNat ≤ 0xFFF) :
    exec (.stRegs x) s = .next (complete (s.setMem (s.mem.writeAll s.i.toNat (registersUpTo s x)))) := by
  have hfit : s.i.toNat + (registersUpTo s x).length ≤ 4096 := by rw [registersUpTo_length]; omega
  rw [exec_eq_conclude, effect, blockBase, writeBlock_of_fits s hfit, conclude_done]

/-- Behind a store of V0..VX at I, the byte at I + k is V[k] (R195). -/
theorem read_writeAll_registersUpTo {s : State} {x : Nibble} {k : Nat} (hw : s.mem.wf = true)
    (h : s.i.toNat + x.toNat ≤ 0xFFF) (hk : k ≤ x.toNat) :
    (s.mem.writeAll s.i.toNat (registersUpTo s x)).read (s.i.toNat + k) = s.readV (BitVec.ofNat 4 k) := by
  have hlen := registersUpTo_length s x
  have hkl : k < (registersUpTo s x).length := by omega
  rw [Memory.read_writeAll_inside hw (by simp only [Config.memSize]; omega) hkl, registersUpTo_getElem]

/-! ### The STEP that runs a decoded word -/

theorem runStep_of_decode {s : State} {i : Instr} (hpc : s.pc.toNat ≤ 0xFFE)
    (hd : decode (s.readByte s.pc.toNat ++ s.readByte (s.pc.toNat + 1)) = .instr i) :
    runStep s = exec i (advance s) := by
  rcases fetch_cases s with ⟨_, e⟩ | ⟨htop, _⟩
  · simp only [runStep, e, executeFetched, decodeBytes, wordOfBytes, hd]
  · omega

/-- R124, R125: the STEP of a running machine executes the word at its PC, with PC advanced past it. -/
theorem step_of_decode {s due : State} {i : Instr} (hs : StepDue s due) (hlive : due.live = true)
    (hmode : due.mode = .running) (hpc : due.pc.toNat ≤ 0xFFE)
    (hd : decode (due.readByte due.pc.toNat ++ due.readByte (due.pc.toNat + 1)) = .instr i) :
    step s = exec i (due.setPc (due.pc + 2#16)) := by
  rw [step_of_stepDue hs, perform, if_pos hlive, stepEvent_of_running hmode]
  exact runStep_of_decode hpc hd

/-- Settles O22: behind the store the bytes at PC and PC + 1 are the two registers, and the next STEP fetches them. -/
theorem storedWordIsTheNextInstruction : Obligations.StoredWordIsTheNextInstruction := by
  unfold Obligations.StoredWordIsTheNextInstruction
  intro s x k j hw hlive hmode hsched hk hfit hpc hd
  have hfirst := read_writeAll_registersUpTo hw hfit (k := k) (by omega)
  have hsecond := read_writeAll_registersUpTo hw hfit hk
  refine ⟨_, exec_stRegs_of_fits hfit, rfl, step_of_decode (.inl ⟨hsched, rfl⟩) hlive hmode ?_ ?_⟩
  · rw [complete_pc, State.setMem_pc]; omega
  · simp only [complete_readByte, State.setMem_readByte, complete_pc, State.setMem_pc, hpc, Nat.add_assoc, hfirst,
      hsecond, hd]

end Sys2Proof.Machine
end

section
/-! SUPPORT. Encoding: what the decoder's answer means of the word it read (R94 to R98), and how the opcode table
follows from it. -/

namespace Sys2Proof

/-! ### A word is its fields in the layout of its format (R91, R92) -/

theorem formatA_fields {w : Word} {op : Nibble} (h : fieldOP w = op) : formatA op (fieldNNN w) = w := by
  subst h
  refine BitVec.eq_of_getLsbD_eq fun i hi => ?_
  simp only [formatA, fieldOP, fieldNNN, BitVec.getLsbD_append, BitVec.getLsbD_extractLsb']
  interval_cases i <;> simp

theorem formatXI_fields {w : Word} {op : Nibble} {nn : Byte} (h : fieldOP w = op) (hnn : fieldNN w = nn) :
    formatXI op (fieldX w) nn = w := by
  subst h hnn
  refine BitVec.eq_of_getLsbD_eq fun i hi => ?_
  simp only [formatXI, fieldOP, fieldX, fieldNN, BitVec.getLsbD_append, BitVec.getLsbD_extractLsb']
  interval_cases i <;> simp

theorem formatXYN_fields {w : Word} {op n : Nibble} (h : fieldOP w = op) (hn : fieldN w = n) :
    formatXYN op (fieldX w) (fieldY w) n = w := by
  subst h hn
  refine BitVec.eq_of_getLsbD_eq fun i hi => ?_
  simp only [formatXYN, fieldOP, fieldX, fieldY, fieldN, BitVec.getLsbD_append, BitVec.getLsbD_extractLsb']
  interval_cases i <;> simp

/-! ### What the decoder answers -/

/-- The invalid words of R98, family by family. -/
def InvalidWord (w : Word) : Prop :=
  (fieldOP w = 0x0#4 ∧ w ≠ 0x00E0#16 ∧ w ≠ 0x00EE#16) ∨
  (fieldOP w = 0x5#4 ∧ fieldN w ≠ 0x0#4) ∨
  (fieldOP w = 0x8#4 ∧ fieldN w ∈ [0x8#4, 0x9#4, 0xA#4, 0xB#4, 0xC#4, 0xD#4, 0xF#4]) ∨
  (fieldOP w = 0x9#4 ∧ fieldN w ≠ 0x0#4) ∨
  (fieldOP w = 0xE#4 ∧ fieldNN w ∉ [0x9E#8, 0xA1#8]) ∨
  (fieldOP w = 0xF#4 ∧ fieldNN w ∉ [0x07#8, 0x0A#8, 0x15#8, 0x18#8, 0x1E#8, 0x29#8, 0x33#8, 0x55#8, 0x65#8])


/-- The answer is right for the word: an instruction that encodes to it, or its rejection as one of the words of R98. -/
def Decoded.RightFor (w : Word) : Decoded → Prop
  | .instr i => encode i = w
  | .invalidOpcode v => v = w ∧ InvalidWord w
  | .truncated => False

theorem decodeFamily0_rightFor {w : Word} (h : fieldOP w = 0x0#4) : (decodeFamily0 w).RightFor w := by
  unfold decodeFamily0
  split_ifs with hcls hret
  · exact hcls.symm
  · exact hret.symm
  · exact ⟨rfl, .inl ⟨h, hcls, hret⟩⟩

theorem decodeFamily8_rightFor {w : Word} (h : fieldOP w = 0x8#4) : (decodeFamily8 w).RightFor w := by
  unfold decodeFamily8
  split
  case h_10 =>
    refine ⟨rfl, .inr (.inr (.inl ⟨h, ?_⟩))⟩
    generalize fieldN w = n at *
    decide +revert
  all_goals exact formatXYN_fields h ‹_›

theorem decodeFamilyE_rightFor {w : Word} (h : fieldOP w = 0xE#4) : (decodeFamilyE w).RightFor w := by
  unfold decodeFamilyE
  split
  case h_3 => exact ⟨rfl, .inr (.inr (.inr (.inr (.inl ⟨h, by simp_all⟩))))⟩
  all_goals exact formatXI_fields h ‹_›

theorem decodeFamilyF_rightFor {w : Word} (h : fieldOP w = 0xF#4) : (decodeFamilyF w).RightFor w := by
  unfold decodeFamilyF
  split
  case h_10 => exact ⟨rfl, .inr (.inr (.inr (.inr (.inr ⟨h, by simp_all⟩))))⟩
  all_goals exact formatXI_fields h ‹_›

/-- The decoder is exhaustive and exclusive (R97). -/
theorem decode_rightFor (w : Word) : (decode w).RightFor w := by
  unfold decode
  split
  case h_1 h => exact decodeFamily0_rightFor h
  case h_2 h | h_3 h | h_11 h | h_12 h => exact formatA_fields h
  case h_4 h | h_5 h | h_7 h | h_8 h | h_13 h => exact formatXI_fields h rfl
  case h_6 h =>
    split_ifs with hn
    · exact formatXYN_fields h hn
    · exact ⟨rfl, .inr (.inl ⟨h, hn⟩)⟩
  case h_9 h => exact decodeFamily8_rightFor h
  case h_10 h =>
    split_ifs with hn
    · exact formatXYN_fields h hn
    · exact ⟨rfl, .inr (.inr (.inr (.inl ⟨h, hn⟩)))⟩
  case h_14 h => exact formatXYN_fields h rfl
  case h_15 h => exact decodeFamilyE_rightFor h
  case h_16 h => exact decodeFamilyF_rightFor h
  case h_17 =>
    simp only [imp_false] at *
    bv_omega

/-- Settles O24: the decoder answers with no other instruction than one that encodes to the word. -/
theorem encodeOfDecodeIsTheWord : Obligations.EncodeOfDecodeIsTheWord := by
  unfold Obligations.EncodeOfDecodeIsTheWord
  intro w i h
  have hright := decode_rightFor w
  rwa [h] at hright

/-! ### Decoding an encoding -/

/-- The family of an encoding and the sub-opcode its family reads give the instruction back (R94). -/
theorem decode_encode (i : Instr) : decode (encode i) = .instr i := by
  cases i with
  | cls | ret => decide
  | jp | call | ldI | jpV0 | seVN | sneVN | ldVN | addVN | rnd | seVV | sneVV | drw => simp [encode, decode]
  | ldVV | orVV | andVV | xorVV | addVV | sub | shr | subn | shl => simp [encode, decode, decodeFamily8]
  | skp | sknp => simp [encode, decode, decodeFamilyE]
  | ldVDT | ldVK | ldDTV | ldSTV | addIV | ldFV | ldBV | stRegs | ldRegs => simp [encode, decode, decodeFamilyF]

/-- Settles O23: the two bytes in memory make the word again. -/
theorem decodeOfEncodeIsTheInstruction : Obligations.DecodeOfEncodeIsTheInstruction := by
  unfold Obligations.DecodeOfEncodeIsTheInstruction
  intro i
  refine ⟨decode_encode i, ?_⟩
  rw [encodeBytes, decodeBytes, wordOfBytes_high_low, decode_encode]

/-- The decoder inverts the encoder: O23 and O24 in one. -/
theorem decode_eq_instr_iff {w : Word} {i : Instr} : decode w = .instr i ↔ encode i = w :=
  ⟨encodeOfDecodeIsTheWord w i, fun h => h ▸ decode_encode i⟩

/-- Settles O27: each sample word is the encoding of its instruction. -/
theorem sampleWordsDecodeAsWritten : Obligations.SampleWordsDecodeAsWritten := by
  unfold Obligations.SampleWordsDecodeAsWritten
  simp only [decode_eq_instr_iff]
  decide

/-- A word either has an instruction that encodes to it or is one of those of R98. -/
theorem encoding_or_invalidWord (w : Word) :
    (∃ i, decode w = .instr i ∧ encode i = w) ∨ (decode w = .invalidOpcode w ∧ InvalidWord w) := by
  have hright := decode_rightFor w
  cases hd : decode w with
  | instr i => rw [hd] at hright; exact .inl ⟨i, rfl, hright⟩
  | invalidOpcode v =>
    rw [hd] at hright
    obtain ⟨rfl, hinvalid⟩ := hright
    exact .inr ⟨rfl, hinvalid⟩
  | truncated => rw [hd] at hright; exact hright.elim

/-! ### The opcode table (R96) -/

/-- Every instruction encodes to a word of its own row. -/
theorem rowOfTable (i : Instr) : Laws.RowOfTable.Statement i := by
  open Laws.RowOfTable in
  cases i
  exacts [cls, ret, jp _, call _, seVN _ _, sneVN _ _, seVV _ _, ldVN _ _, addVN _ _, ldVV _ _, orVV _ _, andVV _ _,
    xorVV _ _, addVV _ _, sub _ _, shr _ _, subn _ _, shl _ _, sneVV _ _, ldI _, jpV0 _, rnd _ _, drw _ _ _, skp _,
    sknp _, ldVDT _, ldVK _, ldDTV _, ldSTV _, addIV _, ldFV _, ldBV _, stRegs _, ldRegs _]

theorem OpcodeRow.selects_iff {row : OpcodeRow} {w : Word} : row.selects w = true ↔ w &&& row.mask = row.pattern := by
  simp [OpcodeRow.selects]

/-- Two rows that agree wherever both masks look are one row. -/
theorem opcodeTable_rows_disjoint : ∀ row ∈ opcodeTable, ∀ row' ∈ opcodeTable,
    row.pattern &&& row'.mask = row'.pattern &&& row.mask → row = row' := by decide

/-- No word selects two rows (R96). -/
theorem row_eq_of_selects {w : Word} {row row' : OpcodeRow} (hmem : row ∈ opcodeTable) (hmem' : row' ∈ opcodeTable)
    (h : row.selects w = true) (h' : row'.selects w = true) : row = row' := by
  refine opcodeTable_rows_disjoint row hmem row' hmem' ?_
  rw [← OpcodeRow.selects_iff.1 h, ← OpcodeRow.selects_iff.1 h', BitVec.and_assoc, BitVec.and_assoc,
    BitVec.and_comm row.mask]

/-- A row's mask looks at every field by which its family decodes (R94, R95). -/
def OpcodeRow.coversFamily (row : OpcodeRow) : Prop :=
  fieldOP row.mask = 0xF#4 ∧
  (fieldOP row.pattern = 0x0#4 → row.mask = BitVec.allOnes 16) ∧
  (fieldOP row.pattern ∈ [0x5#4, 0x8#4, 0x9#4] → fieldN row.mask = 0xF#4) ∧
  (fieldOP row.pattern ∈ [0xE#4, 0xF#4] → fieldNN row.mask = 0xFF#8)

theorem opcodeTable_coversFamily : ∀ row ∈ opcodeTable, row.coversFamily := by
  unfold OpcodeRow.coversFamily
  decide

theorem opcodeTable_pattern_valid : ∀ row ∈ opcodeTable, ¬ InvalidWord row.pattern := by
  unfold InvalidWord
  decide

/-- A row whose mask covers its family's fields selects invalid words only if its pattern is one. -/
theorem invalidWord_pattern {w : Word} {row : OpcodeRow} (hcovers : row.coversFamily)
    (h : w &&& row.mask = row.pattern) (hw : InvalidWord w) : InvalidWord row.pattern := by
  obtain ⟨hop, hwhole, hN, hNN⟩ := hcovers
  have hfamily := fieldOP_of_match h hop
  rcases hw with ⟨hf, hlow⟩ | ⟨hf, hlow⟩ | ⟨hf, hlow⟩ | ⟨hf, hlow⟩ | ⟨hf, hlow⟩ | ⟨hf, hlow⟩ <;>
    rw [hfamily] at hf
  · rw [hwhole hf, BitVec.and_allOnes] at h
    exact .inl ⟨hf, h ▸ hlow⟩
  · exact .inr (.inl ⟨hf, fieldN_of_match h (hN (by simp [hf])) ▸ hlow⟩)
  · exact .inr (.inr (.inl ⟨hf, fieldN_of_match h (hN (by simp [hf])) ▸ hlow⟩))
  · exact .inr (.inr (.inr (.inl ⟨hf, fieldN_of_match h (hN (by simp [hf])) ▸ hlow⟩)))
  · exact .inr (.inr (.inr (.inr (.inl ⟨hf, fieldNN_of_match h (hNN (by simp [hf])) ▸ hlow⟩))))
  · exact .inr (.inr (.inr (.inr (.inr ⟨hf, fieldNN_of_match h (hNN (by simp [hf])) ▸ hlow⟩))))

/-- A word that selects a row is none of those of R98. -/
theorem not_invalidWord_of_selects {w : Word} {row : OpcodeRow} (hmem : row ∈ opcodeTable)
    (h : row.selects w = true) : ¬ InvalidWord w :=
  fun hw => opcodeTable_pattern_valid row hmem
    (invalidWord_pattern (opcodeTable_coversFamily row hmem) (OpcodeRow.selects_iff.1 h) hw)

/-- Settles O25: a word selects a row exactly when it encodes an instruction, and that instruction's row is the one. -/
theorem decodeFollowsTheOpcodeTable : Obligations.DecodeFollowsTheOpcodeTable := by
  unfold Obligations.DecodeFollowsTheOpcodeTable
  refine ⟨rfl, fun w row hmem hsel => ?selected, fun w hnone => ?unselected, fun w row row' => row_eq_of_selects⟩
  all_goals rcases encoding_or_invalidWord w with ⟨i, hd, rfl⟩ | ⟨hd, hw⟩
  case selected.inl =>
    obtain ⟨_, own, hown, hname, hsel'⟩ := rowOfTable i
    exact ⟨i, hd, row_eq_of_selects hown hmem hsel' hsel ▸ hname.symm, rfl⟩
  case selected.inr => exact absurd hw (not_invalidWord_of_selects hmem hsel)
  case unselected.inl =>
    obtain ⟨_, own, hown, _, hsel⟩ := rowOfTable i
    exact absurd hsel (by simp [hnone own hown])
  case unselected.inr => exact hd

/-- Settles O26: a word with an instruction selects its row, and no row selects a word of R98. -/
theorem invalidWordsAreExactlyTheListed : Obligations.InvalidWordsAreExactlyTheListed := by
  unfold Obligations.InvalidWordsAreExactlyTheListed
  intro w
  change _ ↔ InvalidWord w
  rcases encoding_or_invalidWord w with ⟨i, hd, rfl⟩ | ⟨hd, hw⟩
  · obtain ⟨_, row, hmem, _, hsel⟩ := rowOfTable i
    simp [hd, not_invalidWord_of_selects hmem hsel]
  · exact iff_of_true hd hw

end Sys2Proof
end

section
/-! SUPPORT. The STEP cycle: what a due STEP does (R124 to R126), and that every event of an existing machine completes
(R127). -/

namespace Sys2Proof.Machine

/-! ### The machine of a due STEP differs in the schedule alone -/

theorem StepDue.live_eq {s due : State} (h : StepDue s due) : due.live = s.live := by
  rcases h with ⟨_, rfl⟩ | ⟨rest, _, rfl⟩ <;> rfl

theorem StepDue.readByte_eq {s due : State} (h : StepDue s due) (a : Nat) : due.readByte a = s.readByte a := by
  rcases h with ⟨_, rfl⟩ | ⟨rest, _, rfl⟩ <;> rfl

theorem StepDue.eq_of_schedule_nil {s due : State} (h : StepDue s due) (hnil : s.schedule = []) : due = s := by
  rcases h with ⟨_, hdue⟩ | ⟨rest, hcons, _⟩
  · exact hdue
  · rw [hnil] at hcons; cases hcons

@[simp] theorem nextEvent_live (s : State) : (nextEvent s).2.live = s.live := by
  rcases nextEvent_cases s with ⟨_, e⟩ | ⟨_, rest, _, e⟩ <;> rw [e]
  rfl

theorem nextEvent_of_step {s : State} (h : s.schedule = [] ∨ ∃ rest, s.schedule = .step :: rest) :
    (nextEvent s).1 = .step := by
  rcases h with hnil | ⟨rest, hcons⟩
  · simp only [nextEvent, hnil]
  · simp only [nextEvent, hcons]

/-! ### The STEP of a running machine -/

/-- Settles O5: the due machine fetches the word at the PC of s. -/
theorem stepRunsTheDecodedInstruction : Obligations.StepRunsTheDecodedInstruction := by
  unfold Obligations.StepRunsTheDecodedInstruction
  intro s due i hdue hlive hmode hpc hd
  rw [← hdue.pc_eq] at hpc hd ⊢
  rw [← hdue.readByte_eq, ← hdue.readByte_eq] at hd
  exact step_of_decode hdue (hdue.live_eq.trans hlive) (hdue.mode_eq.trans hmode) hpc hd

theorem runStep_past_top {s : State} (h : 0xFFF ≤ s.pc.toNat) : runStep s = .next (raise .memoryOutOfRange s) := by
  rcases runStep_cases s with ⟨_, e⟩ | ⟨hfetch, _⟩
  · exact e
  · omega

/-- R126: a STEP whose fetch runs past 0xFFF only takes the error. -/
theorem step_past_top {s due : State} (hdue : StepDue s due) (hlive : s.live = true) (hmode : s.mode = .running)
    (hpc : 0xFFF ≤ s.pc.toNat) : step s = .next (raise .memoryOutOfRange due) := by
  rw [step_of_stepDue hdue, perform, if_pos (hdue.live_eq.trans hlive),
    stepEvent_of_running (hdue.mode_eq.trans hmode)]
  exact runStep_past_top (by rwa [hdue.pc_eq])

/-- A later error replaces the status, and the mark is up already. -/
@[simp] theorem raise_raise (e e' : Status) (s : State) : raise e (raise e' s) = raise e s := rfl

/-- Settles O7: taking the error moves no PC, so the next STEP takes it again. -/
theorem fetchPastTheTopIsStuck : Obligations.FetchPastTheTopIsStuck := by
  unfold Obligations.FetchPastTheTopIsStuck
  intro s due hdue hlive hmode hpc
  refine ⟨raise .memoryOutOfRange due, step_past_top hdue hlive hmode hpc, returned_raise due (by decide),
    frame_raise _ due, fun hnil => ?_⟩
  obtain rfl := hdue.eq_of_schedule_nil hnil
  have hagain : StepDue (raise .memoryOutOfRange due) (raise .memoryOutOfRange due) := .inl ⟨hnil, rfl⟩
  rw [step_past_top hagain hlive hmode hpc, raise_raise]

/-! ### An instruction with SP in 0..16 completes -/

theorem Attempt.map_eq_broken {α β : Type} {f : α → β} {a : Attempt α} {r : Fault} :
    a.map f = .broken r ↔ a = .broken r := by
  cases a <;> simp [Attempt.map]

theorem push_eq_broken {w : Word} {s : State} {r : Fault} (h : push w s = .broken r) : 16 < s.sp.toNat := by
  rcases push_cases w s with ⟨_, e⟩ | ⟨_, e⟩ | ⟨hsp, e⟩ <;> rw [e] at h <;> cases h
  exact hsp

theorem pop_eq_broken {s : State} {r : Fault} (h : pop s = .broken r) : 16 < s.sp.toNat := by
  rcases pop_cases s with ⟨_, e⟩ | ⟨_, _, e⟩ | ⟨hsp, e⟩ <;> rw [e] at h <;> cases h
  exact hsp

theorem readBlock_ne_broken (s : State) (base len : Nat) (r : Fault) : readBlock s base len ≠ .broken r := by
  rcases readBlock_cases s base len with ⟨_, e⟩ | ⟨_, _, e⟩ <;> rw [e] <;> exact nofun

theorem writeBlock_ne_broken (s : State) (base : Nat) (bytes : List Byte) (r : Fault) :
    writeBlock s base bytes ≠ .broken r := by
  rcases writeBlock_cases s base bytes with ⟨_, e⟩ | ⟨_, _, e⟩ <;> rw [e] <;> exact nofun

theorem skipOnKey_ne_broken (x : Nibble) (level : Bool) (s : State) (r : Fault) : skipOnKey x level s ≠ .broken r := by
  rcases skipOnKey_cases x level s with ⟨_, e⟩ | ⟨_, e⟩ <;> rw [e] <;> exact nofun

/-- Only the stack faults, and only at an SP that R28 rules out. -/
theorem effect_eq_broken {i : Instr} {s : State} {r : Fault} (h : effect i s = .broken r) : 16 < s.sp.toNat := by
  cases i with
  | ret => exact pop_eq_broken (Attempt.map_eq_broken.1 h)
  | call nnn => exact push_eq_broken (Attempt.map_eq_broken.1 h)
  | drw x y n | ldRegs x => exact absurd (Attempt.map_eq_broken.1 h) (readBlock_ne_broken s _ _ r)
  | ldBV x | stRegs x => exact absurd h (writeBlock_ne_broken s _ _ r)
  | skp x | sknp x => exact absurd h (skipOnKey_ne_broken x _ s r)
  | _ => cases h

theorem ok_mem_possibleStatuses (i : Instr) : Status.ok ∈ possibleStatuses i := by
  cases i <;> simp [possibleStatuses]

/-- With SP in 0..16 the execute stage answers a next state, with a status of the table of R270. -/
theorem exec_completes (i : Instr) {s : State} (hsp : s.sp.toNat ≤ 16) :
    ∃ t, exec i s = .next t ∧ t.status ∈ possibleStatuses i := by
  rw [exec_eq_conclude]
  cases he : effect i s with
  | done u => exact ⟨complete u, rfl, ok_mem_possibleStatuses i⟩
  | raised e => exact ⟨raise e s, rfl, (effect_eq_raised he).1⟩
  | broken r => exact absurd (effect_eq_broken he) (by omega)

/-! ### Every event of an existing machine completes -/

/-- No instruction returns InitError (R270). -/
theorem initError_not_mem_possibleStatuses (i : Instr) : Status.initError ∉ possibleStatuses i := by
  cases i <;> simp [possibleStatuses]

/-- The six statuses of R127 are all but that of a failed INIT. -/
theorem mem_of_ne_initError {e : Status} (h : e ≠ .initError) :
    e ∈ [Status.ok, .invalidOpcode, .stackOverflow, .stackUnderflow, .memoryOutOfRange, .invalidKeyIndex] := by
  cases e with
  | initError => exact absurd rfl h
  | _ => decide

theorem runStep_completes {s : State} (hsp : s.sp.toNat ≤ 16) :
    ∃ t, runStep s = .next t ∧ t.status ≠ .initError := by
  rcases runStep_cases s with ⟨_, e⟩ | ⟨_, ⟨i, _, e⟩ | e⟩ <;> rw [e]
  · exact ⟨_, rfl, nofun⟩
  · obtain ⟨t, ht, hstatus⟩ := exec_completes i (s := advance s) hsp
    exact ⟨t, ht, fun hinit => initError_not_mem_possibleStatuses i (hinit ▸ hstatus)⟩
  · exact ⟨_, rfl, nofun⟩

theorem awaitStep_status (x : Nibble) (s : State) : (awaitStep x s).status = .ok := by
  rcases awaitStep_cases x s with ⟨_, e⟩ | ⟨k, _, e⟩ <;> rw [e] <;> rfl

theorem stepEvent_completes {s : State} (hsp : s.sp.toNat ≤ 16) :
    ∃ t, stepEvent s = .next t ∧ t.status ≠ .initError := by
  cases hm : s.mode with
  | running => rw [stepEvent_of_running hm]; exact runStep_completes hsp
  | awaitingKey x =>
    refine ⟨_, stepEvent_of_awaiting hm, ?_⟩
    rw [awaitStep_status]
    exact nofun

/-- Where a machine exists no event is refused, and with SP in 0..16 none faults. -/
theorem perform_completes (e : Event) {s : State} (hlive : s.live = true) (hsp : s.sp.toNat ≤ 16) :
    ∃ t, perform e s = .next t ∧ (e = .step → t.status ≠ .initError) := by
  cases e with
  | init rom => exact ⟨_, rfl, nofun⟩
  | step =>
    obtain ⟨t, ht, hstatus⟩ := stepEvent_completes hsp
    exact ⟨t, perform_step_next.2 ⟨hlive, ht⟩, fun _ => hstatus⟩
  | tick => exact ⟨_, perform_tick_next.2 ⟨hlive, rfl⟩, nofun⟩
  | setKey id pressed => exact ⟨_, perform_setKey_next.2 ⟨hlive, rfl⟩, nofun⟩

/-- Settles O21: the invariant keeps SP in 0..16, and taking an event off the schedule keeps the invariant. -/
theorem liveMachineAlwaysCompletesItsEvent : Obligations.LiveMachineAlwaysCompletesItsEvent := by
  unfold Obligations.LiveMachineAlwaysCompletesItsEvent
  intro s h hlive
  obtain ⟨t, ht, hstatus⟩ :=
    perform_completes (nextEvent s).1 ((nextEvent_live s).trans hlive) h.after_nextEvent.stackPointer
  exact ⟨t, ht, fun hstep => mem_of_ne_initError (hstatus (nextEvent_of_step hstep))⟩

end Sys2Proof.Machine
end

section
/-! SUPPORT. Control transfer and skips: how an instruction whose effect completes ends, the stack on each side of its
bounds, and the outcomes of a skip (spec/41_flow.md). -/

namespace Sys2Proof.Machine

/-! ### An instruction whose effect completes -/

/-- Only `conclude` writes the sticky mark (R275, R276). -/
theorem effect_faultMark {i : Instr} {s u : State} (h : effect i s = .done u) : u.faultMark = s.faultMark := by
  cases i with
  | ret =>
    obtain ⟨r, hr, rfl⟩ := Attempt.map_eq_done.1 h
    obtain ⟨_, _, rfl⟩ := pop_eq_done hr
    rfl
  | call nnn =>
    obtain ⟨r, hr, rfl⟩ := Attempt.map_eq_done.1 h
    obtain ⟨_, rfl⟩ := push_eq_done hr
    rfl
  | seVN x nn | sneVN x nn | seVV x y | sneVV x y | skp x | sknp x =>
    obtain ⟨condition, rfl⟩ := effect_of_isSkip h rfl
    rcases skipIf_cases condition s with ⟨_, e⟩ | ⟨_, e⟩ <;> rw [e]
    rfl
  | drw x y n => obtain ⟨rows, _, rfl⟩ := Attempt.map_eq_done.1 h; rfl
  | ldRegs x => obtain ⟨bytes, _, rfl⟩ := Attempt.map_eq_done.1 h; rw [loadRegistersFrom_eq]
  | ldBV x | stRegs x => obtain ⟨_, rfl⟩ := writeBlock_eq_done h; rfl
  | _ => cases h; rfl

/-- An effect that completes is what the instruction leaves, with Ok and within the instruction's frame. -/
theorem exec_of_effect_done {i : Instr} {s u : State} (h : effect i s = .done u) :
    exec i s = .next (complete u) ∧ Returned .ok s (complete u) ∧
      FrameExcept (mayWrite i).1 (mayWrite i).2 s (complete u) := by
  refine ⟨?_, returned_complete (effect_faultMark h), frame_complete (frame_effect h)⟩
  rw [exec_eq_conclude, h, conclude_done]

/-! ### Jumps (R142, R148) -/

/-- Settles O28. -/
theorem jpLoadsPcWithItsImmediate : Obligations.JpLoadsPcWithItsImmediate := by
  unfold Obligations.JpLoadsPcWithItsImmediate
  refine ⟨fun w h => decode_eq_instr_iff.2 (formatA_fields (fieldOP_of_match h rfl)), fun nnn s => ?_⟩
  obtain ⟨hexec, hok, hframe⟩ := exec_of_effect_done (i := .jp nnn) (s := s) rfl
  exact ⟨_, hexec, addressOf_toNat nnn, hok, hframe⟩

/-- NNN is below 0x1000 and V0 below 0x100, so their sum needs no reduction in 16 bits. -/
theorem addressOf_add_extended_toNat (nnn : Imm12) (b : Byte) :
    (addressOf nnn + extended b).toNat = nnn.toNat + b.toNat := by
  have hnnn := nnn.isLt
  have hb := b.isLt
  rw [BitVec.toNat_add, addressOf_toNat, extended_toNat]
  omega

/-- Settles O34. -/
theorem jpV0AddsV0WithoutReduction : Obligations.JpV0AddsV0WithoutReduction := by
  unfold Obligations.JpV0AddsV0WithoutReduction
  intro nnn s
  obtain ⟨hexec, hok, hframe⟩ := exec_of_effect_done (i := .jpV0 nnn) (s := s) rfl
  exact ⟨_, hexec, addressOf_add_extended_toNat nnn _, hok, hframe⟩

/-! ### Push and pop on each side of their bounds (R30, R31) -/

theorem push_of_room (w : Word) {s : State} (h : s.sp.toNat < 16) :
    push w s = .done ((s.setSlot (BitVec.ofNat 4 s.sp.toNat) w).setSp (s.sp + 1)) := by
  rcases push_cases w s with ⟨_, e⟩ | ⟨hfull, _⟩ | ⟨hover, _⟩
  · exact e
  · omega
  · omega

theorem push_of_full (w : Word) {s : State} (h : s.sp.toNat = 16) : push w s = .raised .stackOverflow := by
  rcases push_cases w s with ⟨hroom, _⟩ | ⟨_, e⟩ | ⟨hover, _⟩
  · omega
  · exact e
  · omega

theorem pop_of_held {s : State} (hpos : 0 < s.sp.toNat) (hle : s.sp.toNat ≤ 16) :
    pop s = .done (s.slot (BitVec.ofNat 4 (s.sp.toNat - 1)), s.setSp (s.sp - 1)) := by
  rcases pop_cases s with ⟨hempty, _⟩ | ⟨_, _, e⟩ | ⟨hover, _⟩
  · omega
  · exact e
  · omega

theorem pop_of_empty {s : State} (h : s.sp.toNat = 0) : pop s = .raised .stackUnderflow := by
  rcases pop_cases s with ⟨_, e⟩ | ⟨hpos, _⟩ | ⟨hover, _⟩
  · exact e
  · omega
  · omega

/-- A slot index written from an SP below 16 is the index of that value. -/
theorem eq_ofNat_iff_toNat_eq {k : Nibble} {n : Nat} (h : n < 16) : k = BitVec.ofNat 4 n ↔ k.toNat = n := by
  rw [BitVec.toNat_eq, BitVec.toNat_ofNat, Nat.mod_eq_of_lt h]

/-- The slot a push writes is the one whose index is the old SP (R30). -/
theorem slot_of_push {w : Word} {s u : State} (h : push w s = .done u) (k : Nibble) :
    u.slot k = if k.toNat = s.sp.toNat then w else s.slot k := by
  obtain ⟨hsp, rfl⟩ := push_eq_done h
  simp only [State.setSp_slot, State.slot_setSlot, eq_ofNat_iff_toNat_eq hsp]

theorem sp_of_push {w : Word} {s u : State} (h : push w s = .done u) : u.sp.toNat = s.sp.toNat + 1 := by
  obtain ⟨hsp, rfl⟩ := push_eq_done h
  rw [State.setSp_sp]
  bv_omega

/-! ### CALL and RET (R143, R141) -/

/-- Settles O29. -/
theorem callPushesPcAndJumpsOrOverflows : Obligations.CallPushesPcAndJumpsOrOverflows := by
  unfold Obligations.CallPushesPcAndJumpsOrOverflows
  refine ⟨fun w h => decode_eq_instr_iff.2 (formatA_fields (fieldOP_of_match h rfl)), fun nnn s hsp => ?room,
    fun nnn s hsp => ?full⟩
  case room =>
    obtain ⟨u, hpush⟩ : ∃ u, push s.pc s = .done u := ⟨_, push_of_room s.pc hsp⟩
    obtain ⟨hexec, hok, hframe⟩ :=
      exec_of_effect_done (i := .call nnn) (Attempt.map_eq_done.2 ⟨_, hpush, rfl⟩)
    have hsucc := sp_of_push hpush
    have hslot := slot_of_push hpush
    exact ⟨_, hexec, addressOf_toNat nnn, hsucc, hslot, hok, hframe⟩
  case full =>
    obtain ⟨t, hexec, hstatus, hframe⟩ :=
      exec_of_effect_raised (i := .call nnn) (Attempt.map_eq_raised.2 (push_of_full s.pc hsp))
    exact ⟨t, hexec, hframe.2 .pc List.not_mem_nil, hframe.2 .sp List.not_mem_nil, hstatus, hframe⟩

/-- Settles O30. -/
theorem retPopsPcOrUnderflows : Obligations.RetPopsPcOrUnderflows := by
  unfold Obligations.RetPopsPcOrUnderflows
  refine ⟨fun w h => decode_eq_instr_iff.2 h.symm, fun s hpos hle => ?held, fun s hsp => ?empty⟩
  case held =>
    obtain ⟨hexec, hok, hframe⟩ :=
      exec_of_effect_done (i := .ret) (Attempt.map_eq_done.2 ⟨_, pop_of_held hpos hle, rfl⟩)
    refine ⟨_, hexec, ?_, fun k hk => ?_, hok, hframe⟩
    · rw [complete_sp, State.setPc_sp, State.setSp_sp]
      bv_omega
    · rw [complete_pc, State.setPc_pc, (eq_ofNat_iff_toNat_eq (by omega)).2 hk]
  case empty =>
    obtain ⟨t, hexec, hstatus, hframe⟩ :=
      exec_of_effect_raised (i := .ret) (Attempt.map_eq_raised.2 (pop_of_empty hsp))
    exact ⟨t, hexec, hframe.2 .pc List.not_mem_nil, hframe.2 .sp List.not_mem_nil, hstatus, hframe⟩

/-- Settles O31: the CALL raises SP by 1 and leaves its return address in the slot at the old SP (O29); that slot is the
one the RET pops, and popping it lowers SP by 1 again (O30). -/
theorem retAfterCallReturnsBehindIt : Obligations.RetAfterCallReturnsBehindIt := by
  unfold Obligations.RetAfterCallReturnsBehindIt
  intro nnn s t u hsp hcall husp huslot
  obtain ⟨_, call_with_room, _⟩ := callPushesPcAndJumpsOrOverflows
  obtain ⟨_, ret_with_held, _⟩ := retPopsPcOrUnderflows
  obtain ⟨t', ht', _, htsp, htslot, _⟩ := call_with_room nnn s hsp
  cases hcall.symm.trans ht'
  rw [← husp] at htsp
  obtain ⟨r, hret, hrsp, hrpc, hok, hframe⟩ := ret_with_held u (by omega) (by omega)
  have htop : (BitVec.ofNat 4 s.sp.toNat).toNat = s.sp.toNat := (eq_ofNat_iff_toNat_eq hsp).1 rfl
  have hpopped := hrpc (BitVec.ofNat 4 s.sp.toNat) (by omega)
  rw [huslot, htslot, if_pos htop] at hpopped
  exact ⟨r, hret, hpopped, BitVec.eq_of_toNat_eq (by omega), hok, hframe⟩

/-! ### Skips (R140 (d), R144 to R147) -/

/-- A skip on `condition`, read as two propositions of which the first implies it and the second its failure. -/
theorem exec_of_effect_skipIf {i : Instr} {s : State} {condition : Bool} {p q : Prop}
    (h : effect i s = .done (skipIf condition s)) (hp : p → condition = true) (hq : q → condition = false) :
    ∃ t, exec i s = .next t ∧ (p → t.pc = s.pc + 2#16) ∧ (q → t.pc = s.pc) ∧ Returned .ok s t ∧
      FrameExcept [] [.pc] s t := by
  obtain ⟨hexec, hok, _⟩ := exec_of_effect_done h
  refine ⟨_, hexec, fun hskip => ?_, fun hstay => ?_, hok, frame_complete (frame_skipIf condition s)⟩
  · rw [hp hskip]; rfl
  · rw [hq hstay]; rfl

/-- Settles O32. -/
theorem skipsOnImmediateCompareAllEightBits : Obligations.SkipsOnImmediateCompareAllEightBits := by
  unfold Obligations.SkipsOnImmediateCompareAllEightBits
  exact ⟨fun w h => decode_eq_instr_iff.2 (formatXI_fields (fieldOP_of_match h rfl) rfl),
    fun w h => decode_eq_instr_iff.2 (formatXI_fields (fieldOP_of_match h rfl) rfl),
    fun x nn s => exec_of_effect_skipIf rfl beq_iff_eq.2 beq_eq_false_iff_ne.2,
    fun x nn s => exec_of_effect_skipIf rfl bne_iff_ne.2 bne_eq_false_iff_eq.2⟩

/-- Settles O33. -/
theorem skipsOnRegistersCompareThem : Obligations.SkipsOnRegistersCompareThem := by
  unfold Obligations.SkipsOnRegistersCompareThem
  exact ⟨fun w h => decode_eq_instr_iff.2 (formatXYN_fields (fieldOP_of_match h rfl) (fieldN_of_match h rfl)),
    fun w h => decode_eq_instr_iff.2 (formatXYN_fields (fieldOP_of_match h rfl) (fieldN_of_match h rfl)),
    fun x y s => exec_of_effect_skipIf rfl beq_iff_eq.2 beq_eq_false_iff_ne.2,
    fun x y s => exec_of_effect_skipIf rfl bne_iff_ne.2 bne_eq_false_iff_eq.2⟩

end Sys2Proof.Machine
end

section
/-! SUPPORT. Loads, arithmetic, logic, shifts and random (spec/42_alu.md): how an instruction ends whose effect writes
one register, or a result and then its flag, and what the flags and results are as numbers. -/

namespace Sys2Proof

/-! ### Words that match a row with the mask of format XI or XYN (R92, R96) -/

theorem formatXI_of_match {w : Word} {op : Nibble} (h : w &&& 0xF000#16 = formatXI op 0#4 0#8) :
    formatXI op (fieldX w) (fieldNN w) = w :=
  formatXI_fields ((fieldOP_of_match h rfl).trans (fieldOP_formatXI ..)) rfl

theorem formatXYN_of_match {w : Word} {op n : Nibble} (h : w &&& 0xF00F#16 = formatXYN op 0#4 0#4 n) :
    formatXYN op (fieldX w) (fieldY w) n = w :=
  formatXYN_fields ((fieldOP_of_match h rfl).trans (fieldOP_formatXYN ..))
    ((fieldN_of_match h rfl).trans (fieldN_formatXYN ..))

end Sys2Proof

namespace Sys2Proof.Machine

/-! ### One register written, no flag (R161 to R166) -/

/-- An effect that writes b to Vx: what holds of b holds of Vx, and no other register changes, VF among them. -/
theorem exec_of_effect_setV {i : Instr} {x : Nibble} {b : Byte} {s : State} {p : Byte → Prop}
    (h : effect i s = .done (s.setV x b)) (hp : p b) :
    ∃ t, exec i s = .next t ∧ p (t.readV x) ∧ Returned .ok s t ∧ FrameExcept [x] [] s t := by
  obtain ⟨hexec, hok, _⟩ := exec_of_effect_done h
  refine ⟨_, hexec, ?_, hok, frame_complete (frame_setV x b s)⟩
  rwa [complete_readV, State.readV_setV_same]

/-- Settles O35. -/
theorem registerLoadsWriteOnlyTheirTarget : Obligations.RegisterLoadsWriteOnlyTheirTarget := by
  unfold Obligations.RegisterLoadsWriteOnlyTheirTarget
  exact ⟨fun w h => decode_eq_instr_iff.2 (formatXI_of_match h),
    fun w h => decode_eq_instr_iff.2 (formatXYN_of_match h),
    fun x nn s => exec_of_effect_setV (p := (· = nn)) rfl rfl,
    fun x y s => exec_of_effect_setV (p := (· = s.readV y)) rfl rfl⟩

/-- Settles O36. -/
theorem addImmediateWrapsWithoutFlag : Obligations.AddImmediateWrapsWithoutFlag := by
  unfold Obligations.AddImmediateWrapsWithoutFlag
  exact ⟨fun w h => decode_eq_instr_iff.2 (formatXI_of_match h),
    fun x nn s => exec_of_effect_setV (p := (·.toNat = _)) rfl (BitVec.toNat_add _ _)⟩

/-- Settles O37. -/
theorem logicActsBitwiseWithoutFlag : Obligations.LogicActsBitwiseWithoutFlag := by
  unfold Obligations.LogicActsBitwiseWithoutFlag
  exact ⟨fun w h => decode_eq_instr_iff.2 (formatXYN_of_match h),
    fun w h => decode_eq_instr_iff.2 (formatXYN_of_match h),
    fun w h => decode_eq_instr_iff.2 (formatXYN_of_match h),
    fun x y s => exec_of_effect_setV
      (p := fun v => ∀ b, v.getLsbD b = ((s.readV x).getLsbD b || (s.readV y).getLsbD b))
      rfl fun _ => BitVec.getLsbD_or,
    fun x y s => exec_of_effect_setV
      (p := fun v => ∀ b, v.getLsbD b = ((s.readV x).getLsbD b && (s.readV y).getLsbD b))
      rfl fun _ => BitVec.getLsbD_and,
    fun x y s => exec_of_effect_setV
      (p := fun v => ∀ b, v.getLsbD b = ((s.readV x).getLsbD b ^^ (s.readV y).getLsbD b))
      rfl fun _ => BitVec.getLsbD_xor⟩

/-! ### Flags as numbers (R170, R172 to R176) -/

@[simp] theorem flagByte_toNat (flag : Bool) : (flagByte flag).toNat = flag.toNat := by
  cases flag <;> rfl

theorem carryOut_toNat (a b : Byte) : (carryOut a b).toNat = if a.toNat + b.toNat > 255 then 1 else 0 :=
  Bool.cond_decide _ 1 0

theorem notBorrow_toNat (a b : Byte) : (notBorrow a b).toNat = if a.toNat ≥ b.toNat then 1 else 0 :=
  Bool.cond_decide _ 1 0

theorem shiftedOutRight_toNat (a : Byte) : (shiftedOutRight a).toNat = a.toNat % 2 := by
  rw [shiftedOutRight, BitVec.getLsbD, Nat.toNat_testBit, Nat.pow_zero, Nat.div_one]

/-- Above bit 7 a byte has no bits, so the quotient by 128 is that bit. -/
theorem shiftedOutLeft_toNat (a : Byte) : (shiftedOutLeft a).toNat = a.toNat / 128 := by
  have ha := a.isLt
  rw [shiftedOutLeft, BitVec.getLsbD, Nat.toNat_testBit]
  omega

/-- A byte difference as R173 computes it, with 256 lent. -/
theorem byteDifference_toNat (a b : Byte) : (a - b).toNat = (a.toNat + 256 - b.toNat) % 256 := by
  have hb := b.isLt
  rw [BitVec.toNat_sub]
  omega

/-! ### A result and its flag (R171, D5) -/

/-- An effect that writes a result to Vx and then a flag: VF holds the flag for every x, Vx the result for x other than
F. -/
theorem exec_of_effect_writeResultThenFlag {i : Instr} {x : Nibble} {result : Byte} {flag : Bool} {s : State}
    {m n : Nat} (h : effect i s = .done (writeResultThenFlag x result flag s)) (hresult : result.toNat = m)
    (hflag : flag.toNat = n) :
    ∃ t, exec i s = .next t ∧ (x ≠ vf → (t.readV x).toNat = m) ∧ (t.readV vf).toNat = n ∧ Returned .ok s t ∧
      FrameExcept [x, vf] [] s t := by
  obtain ⟨hexec, hok, _⟩ := exec_of_effect_done h
  refine ⟨_, hexec, fun hx => ?_, ?_, hok, frame_complete (frame_writeResultThenFlag x result flag s)⟩
  · rw [complete_readV, writeResultThenFlag_readV, if_neg hx, if_pos rfl, hresult]
  · rw [complete_readV, writeResultThenFlag_readV, if_pos rfl, flagByte_toNat, hflag]

/-- Settles O38. -/
theorem addLeavesSumAndCarry : Obligations.AddLeavesSumAndCarry := by
  unfold Obligations.AddLeavesSumAndCarry
  exact fun x y s => exec_of_effect_writeResultThenFlag rfl (BitVec.toNat_add _ _) (carryOut_toNat _ _)

/-- Settles O39. -/
theorem subtractionsLeaveDifferenceAndNotBorrow : Obligations.SubtractionsLeaveDifferenceAndNotBorrow := by
  unfold Obligations.SubtractionsLeaveDifferenceAndNotBorrow
  exact ⟨fun x y s => exec_of_effect_writeResultThenFlag rfl (byteDifference_toNat _ _) (notBorrow_toNat _ _),
    fun x y s => exec_of_effect_writeResultThenFlag rfl (byteDifference_toNat _ _) (notBorrow_toNat _ _)⟩

/-- Settles O40: the effect of SHR and of SHL does not mention Y, so two values of Y give one state. -/
theorem shiftsLeaveTheBitShiftedOut : Obligations.ShiftsLeaveTheBitShiftedOut := by
  unfold Obligations.ShiftsLeaveTheBitShiftedOut
  refine ⟨fun x y s => ?shr, fun x y s => ?shl, fun x y y' s => ⟨rfl, rfl⟩⟩
  case shr =>
    exact exec_of_effect_writeResultThenFlag rfl (BitVec.toNat_ushiftRight _ 1) (shiftedOutRight_toNat _)
  case shl =>
    have hdouble : (s.readV x <<< 1).toNat = (s.readV x).toNat * 2 % 256 := by
      rw [BitVec.toNat_shiftLeft, Nat.shiftLeft_eq]
    exact exec_of_effect_writeResultThenFlag rfl hdouble (shiftedOutLeft_toNat _)

/-! ### The random byte (R181) -/

/-- Settles O41: a bit that NN masks off is 0 whatever the drawn byte holds there. -/
theorem randomByteIsMaskedByImmediate : Obligations.RandomByteIsMaskedByImmediate := by
  unfold Obligations.RandomByteIsMaskedByImmediate
  intro x nn s
  obtain ⟨hexec, hok, hframe⟩ := exec_of_effect_done (i := .rnd x nn) (s := s) rfl
  have hx : (complete ((s.setV x (Config.rnd s.draws &&& nn)).setDraws (s.draws + 1))).readV x =
      Config.rnd s.draws &&& nn := by
    rw [complete_readV, State.setDraws_readV, State.readV_setV_same]
  refine ⟨_, hexec, hx, fun b hb => ?_, rfl, hok, hframe⟩
  rw [hx, BitVec.getLsbD_and, hb, Bool.and_false]

end Sys2Proof.Machine
end

section
/-! SUPPORT. Index register and memory blocks (spec/43_index_memory.md): how an instruction ends whose effect writes I,
or stores a block of bytes at I, and what a block of memory gives the registers it is loaded into. -/

namespace Sys2Proof.Machine

/-! ### I written, no flag (R191 to R193) -/

/-- An effect that writes I leaves everything else, VF among it. -/
theorem exec_of_effect_setI {i : Instr} {w : Word} {s : State} {n : Nat} (h : effect i s = .done (s.setI w))
    (hw : w.toNat = n) :
    ∃ t, exec i s = .next t ∧ t.i.toNat = n ∧ Returned .ok s t ∧ FrameExcept [] [.i] s t := by
  obtain ⟨hexec, hok, _⟩ := exec_of_effect_done h
  exact ⟨_, hexec, hw, hok, frame_complete (frame_setI w s)⟩

/-- The 16-bit sum is reduced modulo 65536 first, which 4096 divides. -/
theorem maskIndex_add_extended_toNat (w : Word) (b : Byte) :
    (maskIndex (w + extended b)).toNat = (w.toNat + b.toNat) % 4096 := by
  rw [maskIndex_toNat, BitVec.toNat_add, extended_toNat]
  omega

/-- Five times a byte is at most 1275, so the mask takes nothing away (D13). -/
theorem maskIndex_extended_mul_five_toNat (b : Byte) : (maskIndex (extended b * 5#16)).toNat = 5 * b.toNat := by
  have hb := b.isLt
  rw [maskIndex_toNat, BitVec.toNat_mul, extended_toNat, BitVec.toNat_ofNat]
  omega

/-- Settles O42. -/
theorem ldILoadsTheImmediate : Obligations.LdILoadsTheImmediate := by
  unfold Obligations.LdILoadsTheImmediate
  exact ⟨fun w h => decode_eq_instr_iff.2 (formatA_fields (fieldOP_of_match h rfl)),
    fun nnn s => exec_of_effect_setI rfl (addressOf_toNat nnn)⟩

/-- Settles O43. -/
theorem addToIndexWrapsAtTwelveBits : Obligations.AddToIndexWrapsAtTwelveBits := by
  unfold Obligations.AddToIndexWrapsAtTwelveBits
  exact ⟨fun w h => decode_eq_instr_iff.2 (formatXI_fields (fieldOP_of_match h rfl) (fieldNN_of_match h rfl)),
    fun x s => exec_of_effect_setI rfl (maskIndex_add_extended_toNat s.i _)⟩

/-- Settles O44. -/
theorem fontAddressIsFiveTimesVx : Obligations.FontAddressIsFiveTimesVx := by
  unfold Obligations.FontAddressIsFiveTimesVx
  exact fun x s => exec_of_effect_setI rfl (maskIndex_extended_mul_five_toNat _)

/-! ### A block stored at I (R194, R195) -/

/-- An effect that stores a block which fits: byte k lies at I + k, and no byte outside the block changes. -/
theorem exec_of_effect_writeBlock {i : Instr} {s : State} {bytes : List Byte}
    (h : effect i s = writeBlock s s.i.toNat bytes) (hw : s.mem.wf = true) (hfit : s.i.toNat + bytes.length ≤ 4096) :
    ∃ t, exec i s = .next t ∧ (∀ k (hk : k < bytes.length), t.readByte (s.i.toNat + k) = bytes[k]) ∧
      (∀ a, a < s.i.toNat ∨ s.i.toNat + bytes.length ≤ a → t.readByte a = s.readByte a) ∧
      Returned .ok s t ∧ FrameExcept [] [.mem] s t := by
  have hdone := h.trans (writeBlock_of_fits s hfit)
  obtain ⟨hexec, hok, _⟩ := exec_of_effect_done hdone
  exact ⟨_, hexec, fun k hk => Memory.read_writeAll_inside hw hfit hk,
    fun a ha => Memory.read_writeAll_outside s.mem bytes ha, hok, frame_complete (frame_setMem _ s)⟩

@[simp] theorem decimalDigits_length (b : Byte) : (decimalDigits b).length = 3 := rfl

theorem decimalDigits_getElem_toNat (b : Byte) {k : Nat} (hk : k < 3) :
    ((decimalDigits b)[k]'hk).toNat = [b.toNat / 100, b.toNat / 10 % 10, b.toNat % 10][k]'hk :=
  (List.getElem_map BitVec.toNat).symm.trans (List.getElem_of_eq (decimalDigits_toNat b) hk)

/-- Settles O45. -/
theorem bcdStoresThreeDigits : Obligations.BcdStoresThreeDigits := by
  unfold Obligations.BcdStoresThreeDigits
  intro x s hw hfit
  obtain ⟨t, hexec, hstored, hkept, hok, hframe⟩ := exec_of_effect_writeBlock (i := .ldBV x) rfl hw
    (by rw [decimalDigits_length]; omega)
  have hdigit (k : Nat) (hk : k < 3) : (t.readByte (s.i.toNat + k)).toNat =
      [(s.readV x).toNat / 100, (s.readV x).toNat / 10 % 10, (s.readV x).toNat % 10][k]'hk := by
    rw [hstored k hk, decimalDigits_getElem_toNat _ hk]
  exact ⟨t, hexec, hdigit 0 (by decide), hdigit 1 (by decide), hdigit 2 (by decide),
    fun a ha => hkept a (by rw [decimalDigits_length]; omega), hok, hframe⟩

/-- Settles O46. -/
theorem storeRegistersWritesTheBlock : Obligations.StoreRegistersWritesTheBlock := by
  unfold Obligations.StoreRegistersWritesTheBlock
  intro x s hw hfit
  have hlen := registersUpTo_length s x
  obtain ⟨t, hexec, hstored, hkept, hok, hframe⟩ := exec_of_effect_writeBlock (i := .stRegs x) rfl hw (by omega)
  refine ⟨t, hexec, fun k hk => ?_, fun a ha => hkept a (by omega), hok, hframe⟩
  rw [hstored k.toNat (by omega), registersUpTo_getElem, BitVec.ofNat_toNat, BitVec.setWidth_eq]

/-! ### A block loaded from I (R196) -/

theorem readBlock_of_fits (s : State) {base len : Nat} (h : base + len ≤ 4096) :
    ∃ bytes, readBlock s base len = .done bytes ∧ bytes.length = len ∧
      ∀ k (hk : k < bytes.length), bytes[k] = s.readByte (base + k) := by
  rcases readBlock_cases s base len with ⟨_, e⟩ | ⟨_, hover, _⟩
  · exact ⟨_, e, by simp, by simp⟩
  · omega

/-- Settles O47: the registers above VX are those the frame leaves. -/
theorem loadRegistersReadsTheBlock : Obligations.LoadRegistersReadsTheBlock := by
  unfold Obligations.LoadRegistersReadsTheBlock
  intro x s hfit
  have hx := x.isLt
  obtain ⟨bytes, hread, hlen, hbytes⟩ := readBlock_of_fits s (base := s.i.toNat) (len := x.toNat + 1) (by omega)
  obtain ⟨hexec, hok, hframe⟩ := exec_of_effect_done (i := .ldRegs x) (Attempt.map_eq_done.2 ⟨bytes, hread, rfl⟩)
  have habove (k : Nibble) (hk : x.toNat < k.toNat) : k ∉ registersNamed x := by
    rw [mem_registersNamed]; omega
  refine ⟨_, hexec, fun k hk => ?_, fun k hk => hframe.1 k (habove k hk), hok, hframe⟩
  rw [complete_readV, loadRegistersFrom_readV 0 bytes s k (by omega), dif_pos (by omega), hbytes, Nat.sub_zero]

end Sys2Proof.Machine
end

section
/-! SUPPORT. The display (spec/44_display.md): a drawing toggles a set of pixels and collides exactly on a lit one of
them; drawings of disjoint sets compose, so bits make rows and rows make the sprite. -/

namespace Sys2Proof.Machine

/-! ### Drawings that toggle a set of pixels (R212, R213) -/

/-- The drawing that led from `before` to `after` inverted exactly the pixels of `pixels`, and reported a collision
exactly when one of them was lit; a collision reported earlier stays. -/
structure Toggles (pixels : Set (Fin 64 × Fin 32)) (before after : Canvas) : Prop where
  inside : ∀ p ∈ pixels, after.1.get p.1 p.2 = !before.1.get p.1 p.2
  outside : ∀ p ∉ pixels, after.1.get p.1 p.2 = before.1.get p.1 p.2
  collision : after.2 = true ↔ before.2 = true ∨ ∃ p ∈ pixels, before.1.get p.1 p.2 = true

theorem Toggles.refl (canvas : Canvas) : Toggles ∅ canvas canvas where
  inside := by simp
  outside := by simp
  collision := by simp

/-- The second drawing finds its pixels as they were before the first, because the first toggled none of them. -/
theorem Toggles.trans {pixels pixels' : Set (Fin 64 × Fin 32)} {c c' c'' : Canvas} (h : Toggles pixels c c')
    (h' : Toggles pixels' c' c'') (hdisj : Disjoint pixels pixels') : Toggles (pixels ∪ pixels') c c'' where
  inside p hp := by
    rcases hp with hp | hp
    · rw [h'.outside p (Set.disjoint_left.1 hdisj hp), h.inside p hp]
    · rw [h'.inside p hp, h.outside p (Set.disjoint_right.1 hdisj hp)]
  outside p hp := by
    rw [Set.mem_union, not_or] at hp
    rw [h'.outside p hp.2, h.outside p hp.1]
  collision := by
    have hkept : (∃ p ∈ pixels', c'.1.get p.1 p.2 = true) ↔ ∃ p ∈ pixels', c.1.get p.1 p.2 = true :=
      exists_congr fun p => and_congr_right fun hp => by rw [h.outside p (Set.disjoint_right.1 hdisj hp)]
    rw [h'.collision, h.collision, hkept, or_assoc]
    simp only [Set.mem_union, or_and_right, exists_or]

/-- Drawing one after another things that cover pairwise disjoint sets toggles all of them. -/
theorem Toggles.foldl {ι : Type} {draw : Canvas → ι → Canvas} {pixels : ι → Set (Fin 64 × Fin 32)}
    (hdraw : ∀ i c, Toggles (pixels i) c (draw c i)) {l : List ι}
    (hdisj : l.Pairwise fun i j => Disjoint (pixels i) (pixels j)) (c : Canvas) :
    Toggles {p | ∃ i ∈ l, p ∈ pixels i} c (l.foldl draw c) := by
  induction l generalizing c with
  | nil => simpa using Toggles.refl c
  | cons i l ih =>
    obtain ⟨hi, hl⟩ := List.pairwise_cons.1 hdisj
    have hrest : Disjoint (pixels i) {p | ∃ j ∈ l, p ∈ pixels j} :=
      Set.disjoint_left.2 fun p hp ⟨j, hj, hpj⟩ => Set.disjoint_left.1 (hi j hj) hp hpj
    have hset : {p | ∃ j ∈ i :: l, p ∈ pixels j} = pixels i ∪ {p | ∃ j ∈ l, p ∈ pixels j} :=
      Set.ext fun p => by simp
    rw [hset]
    exact (hdraw i c).trans (ih hl (draw c i)) hrest

/-- A second drawing of the same set gives every pixel back, and meets as lit what the first met as dark. -/
theorem Toggles.again {pixels : Set (Fin 64 × Fin 32)} {fb : FrameBuffer} {c c' : Canvas}
    (h : Toggles pixels (fb, false) c) (h' : Toggles pixels (c.1, false) c') :
    (∀ p : Fin 64 × Fin 32, c'.1.get p.1 p.2 = fb.get p.1 p.2) ∧
      (c'.2 = true ↔ ∃ p ∈ pixels, fb.get p.1 p.2 = false) := by
  constructor
  · intro p
    by_cases hp : p ∈ pixels
    · rw [h'.inside p hp, h.inside p hp, Bool.not_not]
    · rw [h'.outside p hp, h.outside p hp]
  · have hturned : (∃ p ∈ pixels, c.1.get p.1 p.2 = true) ↔ ∃ p ∈ pixels, fb.get p.1 p.2 = false :=
      exists_congr fun p => and_congr_right fun hp => by rw [h.inside p hp, Bool.not_eq_true']
    simpa [hturned] using h'.collision

/-! ### Bits, rows and sprites -/

/-- The pixel that bit b of row r lands on, if the bit is 1. -/
def bitPixels (x y : Byte) (r : Nat) (row : Byte) (b : Nat) : Set (Fin 64 × Fin 32) :=
  {p | spriteBit row b = true ∧ p = (spriteColumn x b, spriteRow y r)}

/-- The pixels that the 1 bits of row r land on. -/
def rowPixels (x y : Byte) (r : Nat) (row : Byte) : Set (Fin 64 × Fin 32) :=
  {p | ∃ b ∈ [0, 1, 2, 3, 4, 5, 6, 7], p ∈ bitPixels x y r row b}

/-- The screen is 64 columns wide, so the bits of a row land on different columns. -/
theorem spriteColumn_ne (x : Byte) {b b' : Nat} (hlt : b < b') (hb : b' < b + 64) :
    spriteColumn x b ≠ spriteColumn x b' := by
  simp only [spriteColumn, Fin.ofNat, ne_eq, Fin.mk.injEq]
  omega

/-- The screen is 32 rows high, so the rows of a sprite land on different rows. -/
theorem spriteRow_ne (y : Byte) {r r' : Nat} (hlt : r < r') (hr : r' < r + 32) : spriteRow y r ≠ spriteRow y r' := by
  simp only [spriteRow, Fin.ofNat, ne_eq, Fin.mk.injEq]
  omega

/-- A 1 bit toggles its one pixel; a 0 bit covers none. -/
theorem drawBit_toggles (x y : Byte) (r : Nat) (row : Byte) (b : Nat) (c : Canvas) :
    Toggles (bitPixels x y r row b) c (drawBit x y r row c b) := by
  unfold drawBit
  split_ifs with hbit
  · refine ⟨?_, ?_, ?_⟩
    · rintro p ⟨_, rfl⟩; simp [FrameBuffer.get_set]
    · intro p hp
      have hne : ¬(p.1 = spriteColumn x b ∧ p.2 = spriteRow y r) := fun ⟨h1, h2⟩ => hp ⟨hbit, Prod.ext h1 h2⟩
      rw [FrameBuffer.get_set, if_neg hne]
    · simp [bitPixels, hbit]
  · have hnone : bitPixels x y r row b = ∅ := by simp [bitPixels, hbit]
    rw [hnone]
    exact Toggles.refl c

theorem drawRow_toggles (x y : Byte) (r : Nat) (row : Byte) (c : Canvas) :
    Toggles (rowPixels x y r row) c (drawRow x y r row c) := by
  have hbits : [0, 1, 2, 3, 4, 5, 6, 7].Pairwise fun b b' => b < b' ∧ b' < b + 64 := by decide
  refine Toggles.foldl (drawBit_toggles x y r row) (hbits.imp ?_) c
  rintro b b' ⟨hlt, hb⟩
  refine Set.disjoint_left.2 ?_
  rintro p ⟨_, rfl⟩ ⟨_, he⟩
  exact spriteColumn_ne x hlt hb (congrArg Prod.fst he)

theorem drawRows_eq_foldl (x y : Byte) (r : Nat) (rows : List Byte) (c : Canvas) :
    drawRows x y r rows c = (rows.zipIdx r).foldl (fun c e => drawRow x y e.2 e.1 c) c := by
  induction rows generalizing r c with
  | nil => rfl
  | cons row rows ih => exact ih (r + 1) (drawRow x y r row c)

theorem rowPixels_disjoint (x y : Byte) {r r' : Nat} (row row' : Byte) (hlt : r < r') (hr : r' < r + 32) :
    Disjoint (rowPixels x y r row) (rowPixels x y r' row') := by
  refine Set.disjoint_left.2 ?_
  rintro p ⟨b, _, _, rfl⟩ ⟨b', _, _, he⟩
  exact spriteRow_ne y hlt hr (congrArg Prod.snd he)

theorem mem_bits_iff {b : Nat} : b ∈ [0, 1, 2, 3, 4, 5, 6, 7] ↔ b < 8 := List.mem_range (n := 8)

/-- The rows of a sprite, each with its number, land on the set S of R213. -/
theorem mem_rows_iff_spriteCovers (x y : Byte) (rows : List Byte) (p : Fin 64 × Fin 32) :
    (∃ e ∈ rows.zipIdx, p ∈ rowPixels x y e.2 e.1) ↔ SpriteCovers x y rows p.1 p.2 := by
  constructor
  · rintro ⟨⟨row, r⟩, hmem, b, hb, hbit, rfl⟩
    obtain ⟨hr, hrow⟩ := List.getElem?_eq_some_iff.1 (List.mem_zipIdx_iff_getElem?.1 hmem)
    exact ⟨r, b, mem_bits_iff.1 hb, hr, hrow ▸ hbit, rfl, rfl⟩
  · rintro ⟨r, b, hb, hr, hbit, hx, hy⟩
    exact ⟨(rows[r], r), List.mem_zipIdx_iff_getElem?.2 (List.getElem?_eq_getElem hr), b, mem_bits_iff.2 hb, hbit,
      Prod.ext (Fin.ext hx) (Fin.ext hy)⟩

/-- A sprite of at most 32 rows toggles exactly the pixels it covers. -/
theorem drawSprite_toggles (fb : FrameBuffer) (x y : Byte) {rows : List Byte} (h : rows.length ≤ 32) :
    Toggles {p | SpriteCovers x y rows p.1 p.2} (fb, false) (drawSprite fb x y rows) := by
  have hrows : rows.zipIdx.Pairwise fun e e' => Disjoint (rowPixels x y e.2 e.1) (rowPixels x y e'.2 e'.1) := by
    rw [List.pairwise_iff_getElem]
    intro i j hi hj hlt
    rw [List.length_zipIdx] at hj
    simp only [List.getElem_zipIdx]
    exact rowPixels_disjoint x y _ _ (by omega) (by omega)
  have hall := Toggles.foldl (fun e c => drawRow_toggles x y e.2 e.1 c) hrows (fb, false)
  rwa [← drawRows_eq_foldl, Set.ext (mem_rows_iff_spriteCovers x y rows)] at hall

/-! ### Sprites, DRW and CLS (R211 to R215) -/

/-- Settles O50: fifteen rows fit a screen of 32. -/
theorem spriteTogglesCoveredPixelsAndDetectsCollision :
    Obligations.SpriteTogglesCoveredPixelsAndDetectsCollision := by
  unfold Obligations.SpriteTogglesCoveredPixelsAndDetectsCollision
  intro fb x y rows hlen
  have htoggles := drawSprite_toggles fb x y (rows := rows) (by omega)
  exact ⟨fun px py => htoggles.inside (px, py), fun px py => htoggles.outside (px, py),
    by simpa using htoggles.collision⟩

/-- Settles O51: both drawings toggle one set of pixels, the second after the first. -/
theorem drawingTwiceRestoresTheFramebuffer : Obligations.DrawingTwiceRestoresTheFramebuffer := by
  unfold Obligations.DrawingTwiceRestoresTheFramebuffer
  intro fb x y rows hlen
  have hsmall : rows.length ≤ 32 := by omega
  obtain ⟨hrestored, hcollision⟩ := (drawSprite_toggles fb x y hsmall).again (drawSprite_toggles _ x y hsmall)
  exact ⟨fun px py => hrestored (px, py), by simpa using hcollision⟩

theorem readBlock_of_inRange (s : State) {base len : Nat} (h : len = 0 ∨ base + len ≤ 4096) :
    readBlock s base len = .done ((List.range len).map fun k => s.readByte (base + k)) :=
  if_pos ((blockInRange_iff base len).2 h)

theorem writeFlag_readV_vf (flag : Bool) (s : State) : (writeFlag flag s).readV vf = flagByte flag :=
  State.readV_setV_same ..

/-- Settles O52: the rows DRW reads are those of the statement, and a nibble names at most 15 of them. -/
theorem drwDrawsTheRowsAndReportsCollision : Obligations.DrwDrawsTheRowsAndReportsCollision := by
  unfold Obligations.DrwDrawsTheRowsAndReportsCollision
  intro x y n s rows hfit hrows
  have hn := n.isLt
  have hlen : rows.length ≤ 15 := by rw [hrows, List.length_map, List.length_range]; omega
  have hread : readBlock s s.i.toNat n.toNat = .done rows := hrows ▸ readBlock_of_inRange s (by omega)
  obtain ⟨hexec, hok, hframe⟩ := exec_of_effect_done (i := .drw x y n) (Attempt.map_eq_done.2 ⟨rows, hread, rfl⟩)
  obtain ⟨hinside, houtside, hcollision⟩ :=
    spriteTogglesCoveredPixelsAndDetectsCollision s.fb (s.readV x) (s.readV y) rows hlen
  refine ⟨_, hexec, hinside, houtside, fun hlit => ?_, fun hdark => ?_, hok, hframe⟩
  · rw [complete_readV, writeFlag_readV_vf, hcollision.2 hlit]
    rfl
  · have hnone : ¬ ∃ px py, SpriteCovers (s.readV x) (s.readV y) rows px py ∧ s.pixel px py = true := by
      simpa using hdark
    rw [complete_readV, writeFlag_readV_vf, Bool.eq_false_iff.2 (mt hcollision.1 hnone)]
    rfl

/-- Settles O49. -/
theorem clsClearsEveryPixel : Obligations.ClsClearsEveryPixel := by
  unfold Obligations.ClsClearsEveryPixel
  refine ⟨fun w h => decode_eq_instr_iff.2 h.symm, fun s => ?_⟩
  obtain ⟨hexec, hok, hframe⟩ := exec_of_effect_done (i := .cls) (s := s) rfl
  exact ⟨_, hexec, FrameBuffer.get_blank, fun hlive x y => by simp [getPixel, hlive], hok, hframe⟩

end Sys2Proof.Machine
end

section
/-! SUPPORT. The keypad (spec/45_keypad.md): the keypad skips on each side of key 15, SETKEY, and the key wait: which
key a sample reports, what an awaiting STEP does, and what ends the wait. -/

namespace Sys2Proof.Machine

/-! ### Keypad skips (R232 to R234) -/

/-- An instruction whose effect is the skip on a key level, with Vx naming key k: it skips exactly at that level. -/
theorem exec_of_effect_skipOnKey {i : Instr} {x k : Nibble} {level : Bool} {s : State}
    (h : effect i s = skipOnKey x level s) (hk : (s.readV x).toNat = k.toNat) :
    ∃ t, exec i s = .next t ∧ (s.keyDown k = level → t.pc = s.pc + 2#16) ∧ (s.keyDown k = !level → t.pc = s.pc) ∧
      Returned .ok s t ∧ FrameExcept [] [.pc] s t := by
  have hlt := k.isLt
  rcases skipOnKey_cases x level s with ⟨hid, hskip⟩ | ⟨hover, _⟩
  · have hkey : keyOfId (s.readV x) = k := BitVec.eq_of_toNat_eq ((keyOfId_toNat hid).trans hk)
    rw [hskip, hkey] at h
    exact exec_of_effect_skipIf h beq_iff_eq.2 fun hother => by simp [hother]
  · omega

/-- Settles O53. -/
theorem keypadSkipsTestTheKeyLevel : Obligations.KeypadSkipsTestTheKeyLevel := by
  unfold Obligations.KeypadSkipsTestTheKeyLevel
  exact ⟨fun x k s => exec_of_effect_skipOnKey (i := .skp x) rfl,
    fun x k s => exec_of_effect_skipOnKey (i := .sknp x) rfl⟩

/-- An instruction whose effect is the skip on a key level, with Vx above 15: it fails and does not skip (D12). -/
theorem exec_of_effect_skipOnKey_above {i : Instr} {x : Nibble} {level : Bool} {s : State}
    (h : effect i s = skipOnKey x level s) (hx : 15 < (s.readV x).toNat) :
    ∃ t, exec i s = .next t ∧ t.pc = s.pc ∧ Returned .invalidKeyIndex s t ∧ FrameExcept [] [] s t := by
  rcases skipOnKey_cases x level s with ⟨hid, _⟩ | ⟨_, hraised⟩
  · omega
  · obtain ⟨t, hexec, hstatus, hframe⟩ := exec_of_effect_raised (h.trans hraised)
    exact ⟨t, hexec, hframe.2 .pc List.not_mem_nil, hstatus, hframe⟩

/-- Settles O54. -/
theorem keypadSkipsRejectKeyIdsAboveFifteen : Obligations.KeypadSkipsRejectKeyIdsAboveFifteen := by
  unfold Obligations.KeypadSkipsRejectKeyIdsAboveFifteen
  exact fun x s hx =>
    ⟨exec_of_effect_skipOnKey_above (i := .skp x) rfl hx, exec_of_effect_skipOnKey_above (i := .sknp x) rfl hx⟩

/-! ### SETKEY (R231) -/

theorem frame_setKeys (keys : Vector Bool 16) (s : State) : FrameExcept [] [.key] s (s.setKeys keys) :=
  ⟨fun _ _ => rfl, fun c hc => by cases c <;> simp_all [Unchanged]⟩

theorem frame_setSchedule (es : List Event) (s : State) : FrameExcept [] [.schedule] s (s.setSchedule es) :=
  ⟨fun _ _ => rfl, fun c hc => by cases c <;> simp_all [Unchanged]⟩

theorem eq_keyOfId_iff_toNat_eq {id : Byte} (h : id.toNat ≤ 15) {k : Nibble} :
    k = keyOfId id ↔ k.toNat = id.toNat := by
  rw [BitVec.toNat_eq, keyOfId_toNat h]

theorem step_of_setKey {s : State} {id : Byte} {pressed : Bool} {rest : List Event}
    (hs : s.schedule = .setKey id pressed :: rest) (hlive : s.live = true) :
    step s = .next (setKeyEvent id pressed (s.setSchedule rest)) :=
  (step_of_schedule hs).trans (perform_setKey_next.2 ⟨hlive, rfl⟩)

/-- Settles O12: the event is taken off the schedule, then one flag is written or the error taken. -/
theorem setKeyWritesOneFlagOrFails : Obligations.SetKeyWritesOneFlagOrFails := by
  unfold Obligations.SetKeyWritesOneFlagOrFails
  intro s id pressed rest hs hlive
  have hstep := step_of_setKey hs hlive
  have hoff := frame_setSchedule rest s
  rcases setKeyEvent_cases id pressed (s.setSchedule rest) with ⟨hid, e⟩ | ⟨hid, e⟩ <;> rw [e] at hstep
  · refine ⟨fun _ => ⟨_, hstep, fun k => ?_, rfl, returned_complete rfl, frame_complete ?_⟩, fun hover => by omega⟩
    · simp only [complete_keyDown, State.keyDown_setKey, eq_keyOfId_iff_toNat_eq hid, State.setSchedule_keyDown]
    · exact (hoff.trans (frame_setKeys _ _)).mono (List.nil_subset _) (by simp)
  · exact ⟨fun hin => by omega,
      fun _ => ⟨_, hstep, rfl, returned_raise s (by decide), hoff.trans (frame_raise _ _)⟩⟩

/-! ### Entering the wait (R238) -/

/-- KPREV <- KEY: the snapshot reads as the keys did. -/
@[simp] theorem State.keyWasDown_setKprev_key (s : State) (k : Nibble) :
    (s.setKprev s.key).keyWasDown k = s.keyDown k := rfl

/-- Settles O55. -/
theorem keyWaitSnapshotsTheKeysAndSuspends : Obligations.KeyWaitSnapshotsTheKeysAndSuspends := by
  unfold Obligations.KeyWaitSnapshotsTheKeysAndSuspends
  intro x s
  obtain ⟨hexec, hok, hframe⟩ := exec_of_effect_done (i := .ldVK x) (s := s) rfl
  exact ⟨_, hexec, rfl, State.keyWasDown_setKprev_key s, hok, hframe⟩

/-! ### The key a sample reports (R241, R242) -/

theorem transitioned_iff {s : State} {k : Nibble} : transitioned s k = true ↔ GoesDown s k := by
  simp [transitioned, GoesDown]

theorem keyIds_getElem {n : Nat} (h : n < keyIds.length) : keyIds[n] = BitVec.ofNat 4 n := by
  simp [keyIds]

theorem toNat_lt_keyIds_length (k : Nibble) : k.toNat < keyIds.length := k.isLt

theorem keyIds_getElem_toNat (k : Nibble) : keyIds[k.toNat]'(toNat_lt_keyIds_length k) = k := by
  rw [keyIds_getElem, BitVec.ofNat_toNat, BitVec.setWidth_eq]

theorem mem_keyIds (k : Nibble) : k ∈ keyIds :=
  List.mem_of_getElem (keyIds_getElem_toNat k)

theorem pickKey_eq_none_iff {s : State} : pickKey s = none ↔ ∀ k, ¬ GoesDown s k := by
  simp only [pickKey, List.find?_eq_none, transitioned_iff, mem_keyIds, true_imp_iff]

theorem goesDown_of_pickKey {s : State} {k : Nibble} (h : pickKey s = some k) : GoesDown s k :=
  transitioned_iff.1 (List.find?_some h)

/-- The ids are searched in rising order, so the key found is the lowest (D11). -/
theorem pickKey_of_lowest {s : State} {k : Nibble} (hk : GoesDown s k)
    (hlow : ∀ j : Nibble, j.toNat < k.toNat → ¬ GoesDown s j) : pickKey s = some k := by
  refine List.find?_eq_some_iff_getElem.2
    ⟨transitioned_iff.2 hk, k.toNat, toNat_lt_keyIds_length k, keyIds_getElem_toNat k, fun n hn => ?_⟩
  have hlt : n < 16 := hn.trans k.isLt
  have hnat : (BitVec.ofNat 4 n).toNat = n := (eq_ofNat_iff_toNat_eq hlt).1 rfl
  rw [keyIds_getElem, Bool.not_eq_true', ← Bool.not_eq_true, transitioned_iff]
  exact hlow _ (hnat.symm ▸ hn)

/-! ### A STEP in AWAITING_KEY (R240, R241) -/

theorem StepDue.keyDown_eq {s due : State} (h : StepDue s due) (k : Nibble) : due.keyDown k = s.keyDown k := by
  rcases h with ⟨_, rfl⟩ | ⟨rest, _, rfl⟩ <;> rfl

theorem StepDue.goesDown_iff {s due : State} (h : StepDue s due) (k : Nibble) : GoesDown due k ↔ GoesDown s k := by
  rcases h with ⟨_, rfl⟩ | ⟨rest, _, rfl⟩ <;> rfl

theorem step_next_of_awaiting {s due t : State} {x : Nibble} (hdue : StepDue s due) (hmode : s.mode = .awaitingKey x) :
    step s = .next t ↔ s.live = true ∧ awaitStep x due = t := by
  rw [step_of_stepDue hdue, perform_step_next, hdue.live_eq, stepEvent_of_awaiting (hdue.mode_eq.trans hmode),
    Host.Outcome.next.injEq]

theorem awaitStep_of_no_transition (x : Nibble) {s : State} (h : ∀ k, ¬ GoesDown s k) :
    awaitStep x s = complete (s.setKprev s.key) := by
  simp only [awaitStep, pickKey_eq_none_iff.2 h]

theorem awaitStep_of_lowest (x : Nibble) {s : State} {k : Nibble} (hk : GoesDown s k)
    (hlow : ∀ j : Nibble, j.toNat < k.toNat → ¬ GoesDown s j) :
    awaitStep x s = complete ((s.setV x (k.setWidth 8)).setMode .running) := by
  simp only [awaitStep, pickKey_of_lowest hk hlow]

/-- Settles O8. -/
theorem awaitingStepWithoutTransitionOnlySamples : Obligations.AwaitingStepWithoutTransitionOnlySamples := by
  unfold Obligations.AwaitingStepWithoutTransitionOnlySamples
  intro s due x hdue hlive hmode hnone
  simp only [← hdue.goesDown_iff] at hnone
  exact ⟨_, (step_next_of_awaiting hdue hmode).2 ⟨hlive, awaitStep_of_no_transition x hnone⟩, hdue.keyDown_eq,
    returned_complete rfl, frame_complete (frame_setKprev _ due)⟩

/-- Settles O9: the frame holds PC, so nothing was fetched. -/
theorem awaitingStepResumesWithLowestKey : Obligations.AwaitingStepResumesWithLowestKey := by
  unfold Obligations.AwaitingStepResumesWithLowestKey
  intro s due x k hdue hlive hmode hk hlow
  simp only [← hdue.goesDown_iff] at hk hlow
  refine ⟨_, (step_next_of_awaiting hdue hmode).2 ⟨hlive, awaitStep_of_lowest x hk hlow⟩, ?_, rfl,
    returned_complete rfl, frame_complete ((frame_setV x _ due).trans (frame_setMode _ _))⟩
  rw [complete_readV, State.setMode_readV, State.readV_setV_same, BitVec.toNat_setWidth_of_le (by decide)]

/-! ### What ends the wait (R239, R243) -/

@[simp] theorem setKeyEvent_mode (id : Byte) (pressed : Bool) (s : State) :
    (setKeyEvent id pressed s).mode = s.mode := by
  rcases setKeyEvent_cases id pressed s with ⟨_, e⟩ | ⟨_, e⟩ <;> rw [e] <;> rfl

theorem step_mode_of_tick {s t : State} {rest : List Event} (hs : s.schedule = .tick :: rest) (h : step s = .next t) :
    t.mode = s.mode := by
  rw [step_of_schedule hs] at h
  obtain ⟨_, rfl⟩ := perform_tick_next.1 h
  rfl

theorem step_mode_of_setKey {s t : State} {id : Byte} {pressed : Bool} {rest : List Event}
    (hs : s.schedule = .setKey id pressed :: rest) (h : step s = .next t) : t.mode = s.mode := by
  rw [step_of_schedule hs] at h
  obtain ⟨_, rfl⟩ := perform_setKey_next.1 h
  simp

/-- A STEP that ends the wait has picked a key, and that key had gone down. -/
theorem exists_goesDown_of_step_ends_wait {s due t : State} {x : Nibble} (hdue : StepDue s due)
    (hmode : s.mode = .awaitingKey x) (h : step s = .next t) (hend : t.mode ≠ .awaitingKey x) :
    ∃ k, GoesDown s k := by
  obtain ⟨_, rfl⟩ := (step_next_of_awaiting hdue hmode).1 h
  rcases awaitStep_cases x due with ⟨_, e⟩ | ⟨k, hpick, _⟩
  · rw [e] at hend
    exact absurd (hdue.mode_eq.trans hmode) hend
  · exact ⟨k, (hdue.goesDown_iff k).1 (goesDown_of_pickKey hpick)⟩

/-- Settles O10, event by event: TICK and SETKEY keep MODE. -/
theorem waitEndsOnlyByKeyOrInit : Obligations.WaitEndsOnlyByKeyOrInit := by
  unfold Obligations.WaitEndsOnlyByKeyOrInit
  intro s t x hmode h hend
  cases hs : s.schedule with
  | nil => exact .inr ⟨.inl rfl, exists_goesDown_of_step_ends_wait (.inl ⟨hs, rfl⟩) hmode h hend⟩
  | cons e rest =>
    cases e with
    | init rom => exact .inl ⟨rom, rest, rfl⟩
    | step =>
      exact .inr ⟨.inr ⟨rest, rfl⟩, exists_goesDown_of_step_ends_wait (.inr ⟨rest, hs, rfl⟩) hmode h hend⟩
    | tick => exact absurd ((step_mode_of_tick hs h).trans hmode) hend
    | setKey id pressed => exact absurd ((step_mode_of_setKey hs h).trans hmode) hend

end Sys2Proof.Machine
end

section
/-! SUPPORT. The timers (spec/46_timers.md): a count down is truncated subtraction, a TICK is two of them, and TONE reads
ST alone (D16). -/

namespace Sys2Proof.Machine

/-! ### One TICK (R256) -/

theorem countDown_toNat_eq_ite (t : Byte) : (countDown t).toNat = if t.toNat > 0 then t.toNat - 1 else 0 := by
  unfold countDown
  split_ifs <;> bv_omega

/-- A timer stops at 0 because truncated subtraction does. -/
@[simp] theorem countDown_toNat (t : Byte) : (countDown t).toNat = t.toNat - 1 := by
  rw [countDown_toNat_eq_ite]
  split_ifs <;> omega

@[simp] theorem tickEvent_dt (s : State) : (tickEvent s).dt = countDown s.dt := rfl
@[simp] theorem tickEvent_st (s : State) : (tickEvent s).st = countDown s.st := rfl

theorem step_of_tick {s : State} {rest : List Event} (hs : s.schedule = .tick :: rest) (hlive : s.live = true) :
    step s = .next (tickEvent (s.setSchedule rest)) :=
  (step_of_schedule hs).trans (perform_tick_next.2 ⟨hlive, rfl⟩)

/-- A TICK taken off the schedule changes the two timers and the schedule. -/
theorem frame_tick (rest : List Event) (s : State) :
    FrameExcept [] [.dt, .st, .schedule] s (tickEvent (s.setSchedule rest)) :=
  ((frame_setSchedule rest s).trans ((frame_setDt _ _).trans (frame_setSt _ _))).mono (List.nil_subset _) (by simp)

/-- Settles O11: MODE is not read, so every mode is covered. -/
theorem tickCountsBothTimersDown : Obligations.TickCountsBothTimersDown := by
  unfold Obligations.TickCountsBothTimersDown
  intro s rest hs hlive
  exact ⟨_, step_of_tick hs hlive, countDown_toNat_eq_ite s.dt, countDown_toNat_eq_ite s.st, rfl, rfl, rfl,
    frame_tick rest s⟩

/-! ### A run of TICKs, and the tone (R258) -/

theorem tone_of_live {s : State} (h : s.live = true) : tone s = some (decide (0 < s.st.toNat)) := by
  simp [tone, h]

theorem runEvents_succ_of_step {s t : State} (h : step s = .next t) (k : Nat) : runEvents (k + 1) s = runEvents k t := by
  simp only [runEvents, h]

/-- Settles O13, by induction on the number of TICKs: the first of k + 1 leaves a machine whose next k events are
TICKs. -/
theorem toneLastsExactlyStTicks : Obligations.ToneLastsExactlyStTicks := by
  unfold Obligations.ToneLastsExactlyStTicks
  intro k rest s hlive hs
  induction k generalizing s with
  | zero => exact ⟨s, rfl, tone_of_live hlive, rfl, hs, (frame_refl s).mono (List.nil_subset _) (List.nil_subset _)⟩
  | succ k ih =>
    have hstep := step_of_tick hs hlive
    obtain ⟨t, hrun, htone, hdt, hrest, hframe⟩ :=
      ih (tickEvent (s.setSchedule (List.replicate k .tick ++ rest))) hlive rfl
    refine ⟨t, (runEvents_succ_of_step hstep k).trans hrun, ?tone, ?dt, hrest,
      ((frame_tick _ s).trans hframe).mono (List.nil_subset _) (by simp)⟩
    case tone =>
      rw [htone, tickEvent_st, countDown_toNat, State.setSchedule_st]
      simp only [Nat.lt_sub_iff_add_lt]
    case dt =>
      rw [hdt, tickEvent_dt, countDown_toNat, State.setSchedule_dt]
      omega

/-! ### Timer instructions (R251 to R253) -/

theorem formatXI_of_match_immediate {w : Word} {op : Nibble} {nn : Byte} (h : w &&& 0xF0FF#16 = formatXI op 0#4 nn) :
    formatXI op (fieldX w) nn = w :=
  formatXI_fields ((fieldOP_of_match h rfl).trans (fieldOP_formatXI ..))
    ((fieldNN_of_match h rfl).trans (fieldNN_formatXI ..))

/-- Settles O56: each instruction's effect is one update, and the frames of `mayWrite` are those of the statement; TONE
as a function of ST is D16. -/
theorem timerInstructionsMoveOneByte : Obligations.TimerInstructionsMoveOneByte := by
  unfold Obligations.TimerInstructionsMoveOneByte
  refine ⟨fun w h => decode_eq_instr_iff.2 (formatXI_of_match_immediate h),
    fun w h => decode_eq_instr_iff.2 (formatXI_of_match_immediate h),
    fun w h => decode_eq_instr_iff.2 (formatXI_of_match_immediate h),
    fun x s => exec_of_effect_setV (p := (· = s.dt)) rfl rfl, fun x s => ?ldDTV, fun x s => ?ldSTV⟩
  case ldDTV =>
    obtain ⟨hexec, hok, hframe⟩ := exec_of_effect_done (i := .ldDTV x) (s := s) rfl
    exact ⟨_, hexec, rfl, hok, hframe⟩
  case ldSTV =>
    obtain ⟨hexec, hok, hframe⟩ := exec_of_effect_done (i := .ldSTV x) (s := s) rfl
    refine ⟨_, hexec, rfl, fun hlive => ?_, hok, hframe⟩
    have hpos : 0 < (s.readV x).toNat ↔ s.readV x ≠ 0 := by bv_omega
    simp [tone_of_live, hlive, hpos]

end Sys2Proof.Machine
end

section
/-! SUPPORT. Exceptions (spec/60_exceptions.md): which status an instruction returns and what an error leaves (R270, R275),
that only a successful INIT lowers a raised mark (R276), and the STEP on a word that decodes to no instruction (R271). -/

namespace Sys2Proof.Machine

/-! ### The status of an instruction (R270, R275) -/

/-- Settles O14: an effect that completes returns Ok, one that fails returns its error. -/
theorem onlyListedInstructionsRaise : Obligations.OnlyListedInstructionsRaise := by
  unfold Obligations.OnlyListedInstructionsRaise
  intro i s t h
  rcases exec_next h with ⟨u, _, rfl⟩ | ⟨e, _, he, rfl⟩
  · exact ok_mem_possibleStatuses i
  · exact (effect_eq_raised he).1

/-- Settles O15: the error is taken on the state in which the execute stage began. -/
theorem errorDiscardsEveryEffect : Obligations.ErrorDiscardsEveryEffect := by
  unfold Obligations.ErrorDiscardsEveryEffect
  intro i s t h ht
  rcases exec_next h with ⟨u, _, rfl⟩ | ⟨e, he, _, rfl⟩
  · exact absurd (complete_status u) ht
  · exact ⟨returned_raise s he, frame_raise e s⟩

/-! ### A raised mark (R276) -/

theorem exec_keeps_raised_mark {i : Instr} {s t : State} (h : exec i s = .next t) (hmark : s.faultMark = true) :
    t.faultMark = true := by
  rcases exec_next h with ⟨u, hu, rfl⟩ | ⟨e, _, _, rfl⟩
  · rw [complete_faultMark, effect_faultMark hu, hmark]
  · exact raise_faultMark e s

theorem runStep_keeps_raised_mark {s t : State} (h : runStep s = .next t) (hmark : s.faultMark = true) :
    t.faultMark = true := by
  rcases runStep_cases s with ⟨_, e⟩ | ⟨_, ⟨i, _, e⟩ | e⟩ <;> rw [e] at h
  · cases h; exact raise_faultMark _ s
  · exact exec_keeps_raised_mark h hmark
  · cases h; exact raise_faultMark _ (advance s)

@[simp] theorem awaitStep_faultMark (x : Nibble) (s : State) : (awaitStep x s).faultMark = s.faultMark := by
  rcases awaitStep_cases x s with ⟨_, e⟩ | ⟨k, _, e⟩ <;> rw [e] <;> rfl

theorem stepEvent_keeps_raised_mark {s t : State} (h : stepEvent s = .next t) (hmark : s.faultMark = true) :
    t.faultMark = true := by
  cases hm : s.mode with
  | running => rw [stepEvent_of_running hm] at h; exact runStep_keeps_raised_mark h hmark
  | awaitingKey x => rw [stepEvent_of_awaiting hm] at h; cases h; rw [awaitStep_faultMark, hmark]

theorem setKeyEvent_keeps_raised_mark (id : Byte) (pressed : Bool) {s : State} (hmark : s.faultMark = true) :
    (setKeyEvent id pressed s).faultMark = true := by
  rcases setKeyEvent_cases id pressed s with ⟨_, e⟩ | ⟨_, e⟩ <;> rw [e]
  · exact hmark
  · exact raise_faultMark _ s

/-- A ROM that does not fit is itself an error (R311). -/
theorem initEvent_faultMark_of_too_long {rom : List Byte} (s : State) (h : 3584 < rom.length) :
    (initEvent rom s).faultMark = true := by
  rcases initEvent_cases rom s with ⟨hfit, _⟩ | ⟨_, e⟩
  · omega
  · rw [e, State.setLive_faultMark, raise_faultMark]

theorem perform_keeps_raised_mark {e : Event} {s t : State} (h : perform e s = .next t) (hmark : s.faultMark = true)
    (hinit : ∀ rom, e = .init rom → 3584 < rom.length) : t.faultMark = true := by
  cases e with
  | init rom => cases h; exact initEvent_faultMark_of_too_long s (hinit rom rfl)
  | step => exact stepEvent_keeps_raised_mark (perform_step_next.1 h).2 hmark
  | tick => obtain ⟨_, rfl⟩ := perform_tick_next.1 h; exact hmark
  | setKey id pressed => obtain ⟨_, rfl⟩ := perform_setKey_next.1 h; exact setKeyEvent_keeps_raised_mark id pressed hmark

/-- Settles O19: taking the next event off the schedule leaves the mark, and performing it keeps the mark. -/
theorem stickyMarkOutlivesEveryEventButInit : Obligations.StickyMarkOutlivesEveryEventButInit := by
  unfold Obligations.StickyMarkOutlivesEveryEventButInit
  intro s t h hmark hinit
  rcases nextEvent_cases s with ⟨hnil, _⟩ | ⟨e, rest, hcons, _⟩
  · rw [step_of_stepDue (.inl ⟨hnil, rfl⟩)] at h
    exact perform_keeps_raised_mark h hmark nofun
  · rw [step_of_schedule hcons] at h
    exact perform_keeps_raised_mark h hmark fun rom he => hinit rom rest (he ▸ hcons)

/-! ### A word that decodes to no instruction (R271) -/

theorem runStep_of_invalidOpcode {s : State} {w : Word} (hpc : s.pc.toNat ≤ 0xFFE)
    (hd : decode (s.readByte s.pc.toNat ++ s.readByte (s.pc.toNat + 1)) = .invalidOpcode w) :
    runStep s = .next (raise .invalidOpcode (advance s)) := by
  rcases fetch_cases s with ⟨_, e⟩ | ⟨htop, _⟩
  · simp only [runStep, e, executeFetched, decodeBytes, wordOfBytes, hd]
  · omega

/-- Settles O6: the error is taken after PC has advanced, and the advance is all that changed. -/
theorem invalidWordOnlyAdvancesPc : Obligations.InvalidWordOnlyAdvancesPc := by
  unfold Obligations.InvalidWordOnlyAdvancesPc
  rintro s due w hdue hlive hmode hpc rfl hd
  rw [← hdue.pc_eq] at hpc hd ⊢
  rw [← hdue.readByte_eq, ← hdue.readByte_eq] at hd
  refine ⟨raise .invalidOpcode (advance due), ?_, rfl, returned_raise (advance due) (by decide),
    (frame_setPc _ due).trans (frame_raise _ (advance due))⟩
  rw [step_of_stepDue hdue, perform, if_pos (hdue.live_eq.trans hlive),
    stepEvent_of_running (hdue.mode_eq.trans hmode)]
  exact runStep_of_invalidOpcode hpc hd

end Sys2Proof.Machine
end

section
/-! SUPPORT. INIT (spec/70_reset_and_hazards.md): what memory reads as after a ROM that fits (R310), and a machine that
does not exist (R130, R311). -/

namespace Sys2Proof.Machine

theorem step_of_init {s : State} {rom : List Byte} {rest : List Event} (hs : s.schedule = .init rom :: rest) :
    step s = .next (initEvent rom (s.setSchedule rest)) :=
  step_of_schedule hs

/-! ### A ROM that fits (R310) -/

theorem initEvent_of_fits {rom : List Byte} (s : State) (hfit : rom.length ≤ 3584) :
    initEvent rom s =
      ((State.reset.setMem (romCells Config.progBase rom)).setDraws s.draws).setSchedule s.schedule := by
  rcases initEvent_cases rom s with ⟨_, e⟩ | ⟨hlong, _⟩
  · exact e
  · omega

theorem initEvent_readByte_rom {rom : List Byte} (s : State) (hfit : rom.length ≤ 3584) {k : Nat}
    (hk : k < rom.length) : (initEvent rom s).readByte (0x200 + k) = rom[k] := by
  rw [initEvent_of_fits s hfit]
  exact Memory.read_romCells_inside hk

theorem initEvent_readByte_outside {rom : List Byte} (s : State) (hfit : rom.length ≤ 3584) {a : Nat}
    (ha : a < 0x200 ∨ 0x200 + rom.length ≤ a) : (initEvent rom s).readByte a = Memory.unlisted a := by
  rw [initEvent_of_fits s hfit]
  exact Memory.read_romCells_outside rom ha

/-- Settles O2: memory byte by byte, and every other field is that of the reset state. -/
theorem initLoadsRomAndResetsTheMachine : Obligations.InitLoadsRomAndResetsTheMachine := by
  unfold Obligations.InitLoadsRomAndResetsTheMachine
  intro rom rest s hs hfit
  refine ⟨_, step_of_init hs, fun k hk => initEvent_readByte_rom _ hfit hk,
    fun a ha => initEvent_readByte_outside _ hfit (.inl (by omega)), fun a hfont ha => ?_, ?_⟩
  · rw [initEvent_readByte_outside _ hfit ha, Memory.unlisted_of_font_le hfont]
  · rw [initEvent_of_fits _ hfit]
    exact ⟨State.reset_readV, rfl, rfl, rfl, rfl, rfl, rfl, State.reset_pixel, State.reset_keyDown,
      State.reset_keyWasDown, rfl, rfl, rfl, rfl⟩

/-! ### No machine (R130, R311, D19) -/

theorem initEvent_of_too_long {rom : List Byte} (s : State) (hlong : 3584 < rom.length) :
    initEvent rom s = (raise .initError s).setLive false := by
  rcases initEvent_cases rom s with ⟨hfit, _⟩ | ⟨_, e⟩
  · omega
  · exact e

theorem perform_of_no_machine {e : Event} {s : State} (hlive : s.live = false) (hinit : ∀ rom, e ≠ .init rom) :
    perform e s = .refused .noMachine := by
  cases e with
  | init rom => exact absurd rfl (hinit rom)
  | step | tick | setKey id pressed => simp [perform, hlive]

/-- Settles O3: the next event is a STEP or one that is scheduled, and a scheduled INIT is excluded. -/
theorem failedInitLeavesNoMachineToStep : Obligations.FailedInitLeavesNoMachineToStep := by
  unfold Obligations.FailedInitLeavesNoMachineToStep
  constructor
  · intro rom rest s hs hlong
    refine ⟨_, step_of_init hs, ?_⟩
    rw [initEvent_of_too_long _ hlong]
    exact ⟨rfl, rfl, rfl⟩
  · intro s hlive hinit
    rcases nextEvent_cases s with ⟨hnil, _⟩ | ⟨e, rest, hcons, _⟩
    · rw [step_of_stepDue (.inl ⟨hnil, rfl⟩)]
      exact perform_of_no_machine hlive nofun
    · rw [step_of_schedule hcons]
      exact perform_of_no_machine hlive fun rom he => hinit rom rest (he ▸ hcons)

end Sys2Proof.Machine
end
